-- ==== Sys2Proof/Word.lean ====
section
/-! DEFINITION. The word types of the machine: bytes, halfwords, words and register numbers.

Nothing here computes: bit fields, extensions and byte orders are in Decode.lean and under Machine/. -/

namespace Sys2Proof

/-- The addressable unit, 8 bits (R6, R61). -/
abbrev Byte := BitVec 8

/-- A halfword, 16 bits (R6, R61); also the width of an immediate field (R102). -/
abbrev Half := BitVec 16

/-- A word, 32 bits: a general register, an address, an instruction (R6, R100). -/
abbrev Word := BitVec 32

/-- A double-word, 64 bits: the value of a floating point register pair (R6, R41). -/
abbrev DWord := BitVec 64

/-- The number of a general, floating point or coprocessor register, 0 to 31 (R20, R41, R101). -/
abbrev RegIdx := BitVec 5

end Sys2Proof
end

