-- ==== Sys2Proof/Syntax.lean ====
section
/-! DEFINITION. The instructions: one constructor per row of spec/opcode_table.json.

The bare instructions (30_encoding.md R110, R111) carry the fields of their encodings under the table's
names; `target` is the 26-bit field of R103, `imm` the 16-bit field of R102. The pseudoinstructions
(constructors `p...`, R120, R121) carry the operands of the assembler's syntax: a branch pseudoinstruction
carries the 16-bit offset field that the assembler puts into its branch word (R106). -/

namespace Sys2Proof

/-- The operand `Src2` of the assembler (R118): a register, or a constant taken modulo 2^32 (R200). -/
inductive Src2 where
  /-- a register operand, `Rsrc2` -/
  | reg (r : RegIdx)
  /-- a constant operand, loaded into `$at` first -/
  | const (k : Word)
  deriving DecidableEq, Repr

/-- The `address` operand of the assembler, its symbols resolved (R116, R119). -/
inductive Address where
  /-- `k(r)` with a 16-bit signed `k`; `(r)` is `0(r)`, and a bare 16-bit signed `imm` is `imm($0)` -/
  | offset (k : Half) (r : RegIdx)
  /-- an absolute address: an `imm` outside that range, a `symbol`, or `symbol ± imm` -/
  | absolute (a : Word)
  /-- an absolute address plus a register, `symbol ± imm (register)` (90_conflicts.md C2) -/
  | indexed (a : Word) (r : RegIdx)
  deriving DecidableEq, Repr

/-- The instructions of spec/opcode_table.json, one constructor per row. -/
inductive Instr where
  /-- `sll rd, rt, shamt` (R168) -/
  | sll (rd : RegIdx) (rt : RegIdx) (shamt : BitVec 5)
  /-- `srl rd, rt, shamt` (R172) -/
  | srl (rd : RegIdx) (rt : RegIdx) (shamt : BitVec 5)
  /-- `sra rd, rt, shamt` (R170) -/
  | sra (rd : RegIdx) (rt : RegIdx) (shamt : BitVec 5)
  /-- `sllv rd, rt, rs` (R169) -/
  | sllv (rd : RegIdx) (rt : RegIdx) (rs : RegIdx)
  /-- `srlv rd, rt, rs` (R173) -/
  | srlv (rd : RegIdx) (rt : RegIdx) (rs : RegIdx)
  /-- `srav rd, rt, rs` (R171) -/
  | srav (rd : RegIdx) (rt : RegIdx) (rs : RegIdx)
  /-- `jr rs` (R257) -/
  | jr (rs : RegIdx)
  /-- `jalr rs (rd = 31)` (R256) -/
  | jalr (rd : RegIdx) (rs : RegIdx)
  /-- `syscall` (R401) -/
  | syscall (code : BitVec 20)
  /-- `break n` (R402) -/
  | brk (code : BitVec 20)
  /-- `mfhi rd` (R331) -/
  | mfhi (rd : RegIdx)
  /-- `mthi rs` (R333) -/
  | mthi (rs : RegIdx)
  /-- `mflo rd` (R332) -/
  | mflo (rd : RegIdx)
  /-- `mtlo rs` (R334) -/
  | mtlo (rs : RegIdx)
  /-- `mult rs, rt` (R156) -/
  | mult (rs : RegIdx) (rt : RegIdx)
  /-- `multu rs, rt` (R157) -/
  | multu (rs : RegIdx) (rt : RegIdx)
  /-- `div rs, rt` (R149) -/
  | div (rs : RegIdx) (rt : RegIdx)
  /-- `divu rs, rt` (R150) -/
  | divu (rs : RegIdx) (rt : RegIdx)
  /-- `add rd, rs, rt` (R143) -/
  | add (rd : RegIdx) (rs : RegIdx) (rt : RegIdx)
  /-- `addu rd, rs, rt` (R145) -/
  | addu (rd : RegIdx) (rs : RegIdx) (rt : RegIdx)
  /-- `sub rd, rs, rt` (R174) -/
  | sub (rd : RegIdx) (rs : RegIdx) (rt : RegIdx)
  /-- `subu rd, rs, rt` (R175) -/
  | subu (rd : RegIdx) (rs : RegIdx) (rt : RegIdx)
  /-- `and rd, rs, rt` (R147) -/
  | and (rd : RegIdx) (rs : RegIdx) (rt : RegIdx)
  /-- `or rd, rs, rt` (R162) -/
  | or (rd : RegIdx) (rs : RegIdx) (rt : RegIdx)
  /-- `xor rd, rs, rt` (R176) -/
  | xor (rd : RegIdx) (rs : RegIdx) (rt : RegIdx)
  /-- `nor rd, rs, rt` (R160) -/
  | nor (rd : RegIdx) (rs : RegIdx) (rt : RegIdx)
  /-- `slt rd, rs, rt` (R209) -/
  | slt (rd : RegIdx) (rs : RegIdx) (rt : RegIdx)
  /-- `sltu rd, rs, rt` (R211) -/
  | sltu (rd : RegIdx) (rs : RegIdx) (rt : RegIdx)
  /-- `bltz rs, label` (R251) -/
  | bltz (rs : RegIdx) (imm : Half)
  /-- `bgez rs, label` (R240) -/
  | bgez (rs : RegIdx) (imm : Half)
  /-- `bltzal rs, label` (R248) -/
  | bltzal (rs : RegIdx) (imm : Half)
  /-- `bgezal rs, label` (R241) -/
  | bgezal (rs : RegIdx) (imm : Half)
  /-- `j label` (R254) -/
  | j (target : BitVec 26)
  /-- `jal label` (R255) -/
  | jal (target : BitVec 26)
  /-- `beq rs, rt, label` (R236) -/
  | beq (rs : RegIdx) (rt : RegIdx) (imm : Half)
  /-- `bne rs, rt, label` (R252) -/
  | bne (rs : RegIdx) (rt : RegIdx) (imm : Half)
  /-- `blez rs, label` (R247) -/
  | blez (rs : RegIdx) (imm : Half)
  /-- `bgtz rs, label` (R244) -/
  | bgtz (rs : RegIdx) (imm : Half)
  /-- `addi rt, rs, imm` (R144) -/
  | addi (rt : RegIdx) (rs : RegIdx) (imm : Half)
  /-- `addiu rt, rs, imm` (R146) -/
  | addiu (rt : RegIdx) (rs : RegIdx) (imm : Half)
  /-- `slti rt, rs, imm` (R210) -/
  | slti (rt : RegIdx) (rs : RegIdx) (imm : Half)
  /-- `sltiu rt, rs, imm` (R212) -/
  | sltiu (rt : RegIdx) (rs : RegIdx) (imm : Half)
  /-- `andi rt, rs, imm` (R148) -/
  | andi (rt : RegIdx) (rs : RegIdx) (imm : Half)
  /-- `ori rt, rs, imm` (R163) -/
  | ori (rt : RegIdx) (rs : RegIdx) (imm : Half)
  /-- `xori rt, rs, imm` (R177) -/
  | xori (rt : RegIdx) (rs : RegIdx) (imm : Half)
  /-- `lui rt, imm` (R201) -/
  | lui (rt : RegIdx) (imm : Half)
  /-- `mfc0 rt, rd` (R335) -/
  | mfc0 (rt : RegIdx) (rd : RegIdx)
  /-- `mfc1 rt, rd` (R335) -/
  | mfc1 (rt : RegIdx) (rd : RegIdx)
  /-- `mfc2 rt, rd` (R335) -/
  | mfc2 (rt : RegIdx) (rd : RegIdx)
  /-- `mfc3 rt, rd` (R335) -/
  | mfc3 (rt : RegIdx) (rd : RegIdx)
  /-- `mtc0 rt, rd` (R337) -/
  | mtc0 (rt : RegIdx) (rd : RegIdx)
  /-- `mtc1 rt, rd` (R337) -/
  | mtc1 (rt : RegIdx) (rd : RegIdx)
  /-- `mtc2 rt, rd` (R337) -/
  | mtc2 (rt : RegIdx) (rd : RegIdx)
  /-- `mtc3 rt, rd` (R337) -/
  | mtc3 (rt : RegIdx) (rd : RegIdx)
  /-- `bc0f label` (R235) -/
  | bc0f (imm : Half)
  /-- `bc1f label` (R235) -/
  | bc1f (imm : Half)
  /-- `bc2f label` (R235) -/
  | bc2f (imm : Half)
  /-- `bc3f label` (R235) -/
  | bc3f (imm : Half)
  /-- `bc0t label` (R234) -/
  | bc0t (imm : Half)
  /-- `bc1t label` (R234) -/
  | bc1t (imm : Half)
  /-- `bc2t label` (R234) -/
  | bc2t (imm : Half)
  /-- `bc3t label` (R234) -/
  | bc3t (imm : Half)
  /-- `rfe` (R400) -/
  | rfe
  /-- `add.d fd, fs, ft` (R355) -/
  | addD (fd : RegIdx) (fs : RegIdx) (ft : RegIdx)
  /-- `add.s fd, fs, ft` (R356) -/
  | addS (fd : RegIdx) (fs : RegIdx) (ft : RegIdx)
  /-- `sub.d fd, fs, ft` (R381) -/
  | subD (fd : RegIdx) (fs : RegIdx) (ft : RegIdx)
  /-- `sub.s fd, fs, ft` (R382) -/
  | subS (fd : RegIdx) (fs : RegIdx) (ft : RegIdx)
  /-- `mul.d fd, fs, ft` (R375) -/
  | mulD (fd : RegIdx) (fs : RegIdx) (ft : RegIdx)
  /-- `mul.s fd, fs, ft` (R376) -/
  | mulS (fd : RegIdx) (fs : RegIdx) (ft : RegIdx)
  /-- `div.d fd, fs, ft` (R369) -/
  | divD (fd : RegIdx) (fs : RegIdx) (ft : RegIdx)
  /-- `div.s fd, fs, ft` (R370) -/
  | divS (fd : RegIdx) (fs : RegIdx) (ft : RegIdx)
  /-- `abs.d fd, fs` (R353) -/
  | absD (fd : RegIdx) (fs : RegIdx)
  /-- `abs.s fd, fs` (R354) -/
  | absS (fd : RegIdx) (fs : RegIdx)
  /-- `mov.d fd, fs` (R373) -/
  | movD (fd : RegIdx) (fs : RegIdx)
  /-- `mov.s fd, fs` (R374) -/
  | movS (fd : RegIdx) (fs : RegIdx)
  /-- `neg.d fd, fs` (R377) -/
  | negD (fd : RegIdx) (fs : RegIdx)
  /-- `neg.s fd, fs` (R378) -/
  | negS (fd : RegIdx) (fs : RegIdx)
  /-- `cvt.d.s fd, fs` (R363) -/
  | cvtDS (fd : RegIdx) (fs : RegIdx)
  /-- `cvt.d.w fd, fs` (R364) -/
  | cvtDW (fd : RegIdx) (fs : RegIdx)
  /-- `cvt.s.d fd, fs` (R365) -/
  | cvtSD (fd : RegIdx) (fs : RegIdx)
  /-- `cvt.s.w fd, fs` (R366) -/
  | cvtSW (fd : RegIdx) (fs : RegIdx)
  /-- `cvt.w.d fd, fs` (R367) -/
  | cvtWD (fd : RegIdx) (fs : RegIdx)
  /-- `cvt.w.s fd, fs` (R368) -/
  | cvtWS (fd : RegIdx) (fs : RegIdx)
  /-- `c.eq.d fs, ft` (R357) -/
  | cEqD (fs : RegIdx) (ft : RegIdx)
  /-- `c.eq.s fs, ft` (R358) -/
  | cEqS (fs : RegIdx) (ft : RegIdx)
  /-- `c.le.d fs, ft` (R359) -/
  | cLeD (fs : RegIdx) (ft : RegIdx)
  /-- `c.le.s fs, ft` (R360) -/
  | cLeS (fs : RegIdx) (ft : RegIdx)
  /-- `c.lt.d fs, ft` (R361) -/
  | cLtD (fs : RegIdx) (ft : RegIdx)
  /-- `c.lt.s fs, ft` (R362) -/
  | cLtS (fs : RegIdx) (ft : RegIdx)
  /-- `lb rt, imm(rs)` (R283) -/
  | lb (rt : RegIdx) (imm : Half) (rs : RegIdx)
  /-- `lh rt, imm(rs)` (R286) -/
  | lh (rt : RegIdx) (imm : Half) (rs : RegIdx)
  /-- `lwl rt, imm(rs)` (R290) -/
  | lwl (rt : RegIdx) (imm : Half) (rs : RegIdx)
  /-- `lw rt, imm(rs)` (R288) -/
  | lw (rt : RegIdx) (imm : Half) (rs : RegIdx)
  /-- `lbu rt, imm(rs)` (R284) -/
  | lbu (rt : RegIdx) (imm : Half) (rs : RegIdx)
  /-- `lhu rt, imm(rs)` (R287) -/
  | lhu (rt : RegIdx) (imm : Half) (rs : RegIdx)
  /-- `lwr rt, imm(rs)` (R291) -/
  | lwr (rt : RegIdx) (imm : Half) (rs : RegIdx)
  /-- `sb rt, imm(rs)` (R311) -/
  | sb (rt : RegIdx) (imm : Half) (rs : RegIdx)
  /-- `sh rt, imm(rs)` (R313) -/
  | sh (rt : RegIdx) (imm : Half) (rs : RegIdx)
  /-- `swl rt, imm(rs)` (R316) -/
  | swl (rt : RegIdx) (imm : Half) (rs : RegIdx)
  /-- `sw rt, imm(rs)` (R314) -/
  | sw (rt : RegIdx) (imm : Half) (rs : RegIdx)
  /-- `swr rt, imm(rs)` (R317) -/
  | swr (rt : RegIdx) (imm : Half) (rs : RegIdx)
  /-- `lwc0 rt, imm(rs)` (R289) -/
  | lwc0 (rt : RegIdx) (imm : Half) (rs : RegIdx)
  /-- `lwc1 rt, imm(rs)` (R289) -/
  | lwc1 (rt : RegIdx) (imm : Half) (rs : RegIdx)
  /-- `lwc2 rt, imm(rs)` (R289) -/
  | lwc2 (rt : RegIdx) (imm : Half) (rs : RegIdx)
  /-- `lwc3 rt, imm(rs)` (R289) -/
  | lwc3 (rt : RegIdx) (imm : Half) (rs : RegIdx)
  /-- `swc0 rt, imm(rs)` (R315) -/
  | swc0 (rt : RegIdx) (imm : Half) (rs : RegIdx)
  /-- `swc1 rt, imm(rs)` (R315) -/
  | swc1 (rt : RegIdx) (imm : Half) (rs : RegIdx)
  /-- `swc2 rt, imm(rs)` (R315) -/
  | swc2 (rt : RegIdx) (imm : Half) (rs : RegIdx)
  /-- `swc3 rt, imm(rs)` (R315) -/
  | swc3 (rt : RegIdx) (imm : Half) (rs : RegIdx)
  /-- `abs rd, rs` (R142) -/
  | pAbs (rd : RegIdx) (rs : RegIdx)
  /-- `div rd, rs, rt` (R151) -/
  | pDiv (rd : RegIdx) (rs : RegIdx) (src : Src2)
  /-- `divu rd, rs, rt` (R152) -/
  | pDivu (rd : RegIdx) (rs : RegIdx) (src : Src2)
  /-- `mul rd, rs, rt` (R153) -/
  | pMul (rd : RegIdx) (rs : RegIdx) (src : Src2)
  /-- `mulo rd, rs, rt` (R154) -/
  | pMulo (rd : RegIdx) (rs : RegIdx) (src : Src2)
  /-- `mulou rd, rs, rt` (R155) -/
  | pMulou (rd : RegIdx) (rs : RegIdx) (src : Src2)
  /-- `neg rd, rs` (R158) -/
  | pNeg (rd : RegIdx) (rs : RegIdx)
  /-- `negu rd, rs` (R159) -/
  | pNegu (rd : RegIdx) (rs : RegIdx)
  /-- `not rd, rs` (R161) -/
  | pNot (rd : RegIdx) (rs : RegIdx)
  /-- `rem rd, rs, rt` (R164) -/
  | pRem (rd : RegIdx) (rs : RegIdx) (src : Src2)
  /-- `remu rd, rs, rt` (R165) -/
  | pRemu (rd : RegIdx) (rs : RegIdx) (src : Src2)
  /-- `rol rd, rs, rt` (R166) -/
  | pRol (rd : RegIdx) (rs : RegIdx) (rt : RegIdx)
  /-- `rol rd, rs, k (k constant)` (R166) -/
  | pRolConst (rd : RegIdx) (rs : RegIdx) (k : Word)
  /-- `ror rd, rs, rt` (R167) -/
  | pRor (rd : RegIdx) (rs : RegIdx) (rt : RegIdx)
  /-- `ror rd, rs, k (k constant)` (R167) -/
  | pRorConst (rd : RegIdx) (rs : RegIdx) (k : Word)
  /-- `li rd, k` (R200) -/
  | pLi (rd : RegIdx) (k : Word)
  /-- `seq rd, rs, rt` (R202) -/
  | pSeq (rd : RegIdx) (rs : RegIdx) (src : Src2)
  /-- `sge rd, rs, rt` (R203) -/
  | pSge (rd : RegIdx) (rs : RegIdx) (src : Src2)
  /-- `sgeu rd, rs, rt` (R204) -/
  | pSgeu (rd : RegIdx) (rs : RegIdx) (src : Src2)
  /-- `sgt rd, rs, rt` (R205) -/
  | pSgt (rd : RegIdx) (rs : RegIdx) (src : Src2)
  /-- `sgtu rd, rs, rt` (R206) -/
  | pSgtu (rd : RegIdx) (rs : RegIdx) (src : Src2)
  /-- `sle rd, rs, rt` (R207) -/
  | pSle (rd : RegIdx) (rs : RegIdx) (src : Src2)
  /-- `sleu rd, rs, rt` (R208) -/
  | pSleu (rd : RegIdx) (rs : RegIdx) (src : Src2)
  /-- `sne rd, rs, rt` (R213) -/
  | pSne (rd : RegIdx) (rs : RegIdx) (src : Src2)
  /-- `b label` (R233) -/
  | pB (off : Half)
  /-- `beqz rs, label` (R237) -/
  | pBeqz (rs : RegIdx) (off : Half)
  /-- `bge rs, rt, label` (R238) -/
  | pBge (rs : RegIdx) (src : Src2) (off : Half)
  /-- `bgeu rs, rt, label` (R239) -/
  | pBgeu (rs : RegIdx) (src : Src2) (off : Half)
  /-- `bgt rs, rt, label` (R242) -/
  | pBgt (rs : RegIdx) (src : Src2) (off : Half)
  /-- `bgtu rs, rt, label` (R243) -/
  | pBgtu (rs : RegIdx) (src : Src2) (off : Half)
  /-- `ble rs, rt, label` (R245) -/
  | pBle (rs : RegIdx) (src : Src2) (off : Half)
  /-- `bleu rs, rt, label` (R246) -/
  | pBleu (rs : RegIdx) (src : Src2) (off : Half)
  /-- `blt rs, rt, label` (R249) -/
  | pBlt (rs : RegIdx) (src : Src2) (off : Half)
  /-- `bltu rs, rt, label` (R250) -/
  | pBltu (rs : RegIdx) (src : Src2) (off : Half)
  /-- `bnez rs, label` (R253) -/
  | pBnez (rs : RegIdx) (off : Half)
  /-- `la rd, address` (R282) -/
  | pLa (rd : RegIdx) (addr : Address)
  /-- `ld rd, k(r)` (R285) -/
  | pLd (rd : RegIdx) (k : Half) (base : RegIdx)
  /-- `ulh rd, k(r)` (R292) -/
  | pUlh (rd : RegIdx) (k : Half) (base : RegIdx)
  /-- `ulhu rd, k(r)` (R293) -/
  | pUlhu (rd : RegIdx) (k : Half) (base : RegIdx)
  /-- `ulw rd, k(r)` (R294) -/
  | pUlw (rd : RegIdx) (k : Half) (base : RegIdx)
  /-- `sd rs, k(r)` (R312) -/
  | pSd (rs : RegIdx) (k : Half) (base : RegIdx)
  /-- `ush rs, k(r)` (R318) -/
  | pUsh (rs : RegIdx) (k : Half) (base : RegIdx)
  /-- `usw rs, k(r)` (R319) -/
  | pUsw (rs : RegIdx) (k : Half) (base : RegIdx)
  /-- `move rd, rs` (R330) -/
  | pMove (rd : RegIdx) (rs : RegIdx)
  /-- `mfc1.d rd, fs` (R336) -/
  | pMfc1D (rd : RegIdx) (fs : RegIdx)
  /-- `l.d fd, k(r)` (R371) -/
  | pLoadD (fd : RegIdx) (k : Half) (base : RegIdx)
  /-- `l.s fd, address` (R372) -/
  | pLoadS (fd : RegIdx) (addr : Address)
  /-- `s.d fs, k(r)` (R379) -/
  | pStoreD (fs : RegIdx) (k : Half) (base : RegIdx)
  /-- `s.s fs, address` (R380) -/
  | pStoreS (fs : RegIdx) (addr : Address)
  /-- `nop` (R403) -/
  | pNop
  deriving DecidableEq, Repr

/-- Whether an instruction is a pseudoinstruction of the assembler's virtual machine, not one word of the
bare machine (R3, R120). -/
def Instr.isPseudo : Instr → Bool
  | .sll _ _ _ => false
  | .srl _ _ _ => false
  | .sra _ _ _ => false
  | .sllv _ _ _ => false
  | .srlv _ _ _ => false
  | .srav _ _ _ => false
  | .jr _ => false
  | .jalr _ _ => false
  | .syscall _ => false
  | .brk _ => false
  | .mfhi _ => false
  | .mthi _ => false
  | .mflo _ => false
  | .mtlo _ => false
  | .mult _ _ => false
  | .multu _ _ => false
  | .div _ _ => false
  | .divu _ _ => false
  | .add _ _ _ => false
  | .addu _ _ _ => false
  | .sub _ _ _ => false
  | .subu _ _ _ => false
  | .and _ _ _ => false
  | .or _ _ _ => false
  | .xor _ _ _ => false
  | .nor _ _ _ => false
  | .slt _ _ _ => false
  | .sltu _ _ _ => false
  | .bltz _ _ => false
  | .bgez _ _ => false
  | .bltzal _ _ => false
  | .bgezal _ _ => false
  | .j _ => false
  | .jal _ => false
  | .beq _ _ _ => false
  | .bne _ _ _ => false
  | .blez _ _ => false
  | .bgtz _ _ => false
  | .addi _ _ _ => false
  | .addiu _ _ _ => false
  | .slti _ _ _ => false
  | .sltiu _ _ _ => false
  | .andi _ _ _ => false
  | .ori _ _ _ => false
  | .xori _ _ _ => false
  | .lui _ _ => false
  | .mfc0 _ _ => false
  | .mfc1 _ _ => false
  | .mfc2 _ _ => false
  | .mfc3 _ _ => false
  | .mtc0 _ _ => false
  | .mtc1 _ _ => false
  | .mtc2 _ _ => false
  | .mtc3 _ _ => false
  | .bc0f _ => false
  | .bc1f _ => false
  | .bc2f _ => false
  | .bc3f _ => false
  | .bc0t _ => false
  | .bc1t _ => false
  | .bc2t _ => false
  | .bc3t _ => false
  | .rfe => false
  | .addD _ _ _ => false
  | .addS _ _ _ => false
  | .subD _ _ _ => false
  | .subS _ _ _ => false
  | .mulD _ _ _ => false
  | .mulS _ _ _ => false
  | .divD _ _ _ => false
  | .divS _ _ _ => false
  | .absD _ _ => false
  | .absS _ _ => false
  | .movD _ _ => false
  | .movS _ _ => false
  | .negD _ _ => false
  | .negS _ _ => false
  | .cvtDS _ _ => false
  | .cvtDW _ _ => false
  | .cvtSD _ _ => false
  | .cvtSW _ _ => false
  | .cvtWD _ _ => false
  | .cvtWS _ _ => false
  | .cEqD _ _ => false
  | .cEqS _ _ => false
  | .cLeD _ _ => false
  | .cLeS _ _ => false
  | .cLtD _ _ => false
  | .cLtS _ _ => false
  | .lb _ _ _ => false
  | .lh _ _ _ => false
  | .lwl _ _ _ => false
  | .lw _ _ _ => false
  | .lbu _ _ _ => false
  | .lhu _ _ _ => false
  | .lwr _ _ _ => false
  | .sb _ _ _ => false
  | .sh _ _ _ => false
  | .swl _ _ _ => false
  | .sw _ _ _ => false
  | .swr _ _ _ => false
  | .lwc0 _ _ _ => false
  | .lwc1 _ _ _ => false
  | .lwc2 _ _ _ => false
  | .lwc3 _ _ _ => false
  | .swc0 _ _ _ => false
  | .swc1 _ _ _ => false
  | .swc2 _ _ _ => false
  | .swc3 _ _ _ => false
  | .pAbs _ _ => true
  | .pDiv _ _ _ => true
  | .pDivu _ _ _ => true
  | .pMul _ _ _ => true
  | .pMulo _ _ _ => true
  | .pMulou _ _ _ => true
  | .pNeg _ _ => true
  | .pNegu _ _ => true
  | .pNot _ _ => true
  | .pRem _ _ _ => true
  | .pRemu _ _ _ => true
  | .pRol _ _ _ => true
  | .pRolConst _ _ _ => true
  | .pRor _ _ _ => true
  | .pRorConst _ _ _ => true
  | .pLi _ _ => true
  | .pSeq _ _ _ => true
  | .pSge _ _ _ => true
  | .pSgeu _ _ _ => true
  | .pSgt _ _ _ => true
  | .pSgtu _ _ _ => true
  | .pSle _ _ _ => true
  | .pSleu _ _ _ => true
  | .pSne _ _ _ => true
  | .pB _ => true
  | .pBeqz _ _ => true
  | .pBge _ _ _ => true
  | .pBgeu _ _ _ => true
  | .pBgt _ _ _ => true
  | .pBgtu _ _ _ => true
  | .pBle _ _ _ => true
  | .pBleu _ _ _ => true
  | .pBlt _ _ _ => true
  | .pBltu _ _ _ => true
  | .pBnez _ _ => true
  | .pLa _ _ => true
  | .pLd _ _ _ => true
  | .pUlh _ _ _ => true
  | .pUlhu _ _ _ => true
  | .pUlw _ _ _ => true
  | .pSd _ _ _ => true
  | .pUsh _ _ _ => true
  | .pUsw _ _ _ => true
  | .pMove _ _ => true
  | .pMfc1D _ _ => true
  | .pLoadD _ _ _ => true
  | .pLoadS _ _ => true
  | .pStoreD _ _ _ => true
  | .pStoreS _ _ => true
  | .pNop => true

end Sys2Proof
end

