-- ==== Sys2Proof/Machine/Expand.lean ====
section
/-! DEFINITION. The reference assembler: what the virtual machine's operands and pseudoinstructions become
in bare instructions (R116 to R122). The expansions are those of R121, with the changes of R471 (f) when
the machine has branch delay slots. -/

namespace Sys2Proof

/-- `$at`, the assembler's temporary (R22, R121). -/
def regAt : RegIdx := 1#5

/-- The names the assembler accepts for the general registers, in their order (R22). -/
def regNames : List String :=
  ["zero", "at", "v0", "v1", "a0", "a1", "a2", "a3", "t0", "t1", "t2", "t3", "t4", "t5", "t6", "t7",
   "s0", "s1", "s2", "s3", "s4", "s5", "s6", "s7", "t8", "t9", "k0", "k1", "gp", "sp", "fp", "ra"]

/-- The register a name stands for (R22, R117). -/
def regNumber (name : String) : Option RegIdx :=
  if regNames.contains name then some (BitVec.ofNat 5 (regNames.idxOf name)) else none

/-- The offset field of a branch at `pc` to `label`; none where the offset does not fit (R106). -/
def branchField (pc label : Word) : Option Half :=
  let d := (label - (pc + 4#32)).toInt
  if d % 4 = 0 ∧ -131072 ≤ d ∧ d ≤ 131068 then some (BitVec.ofInt 16 (d / 4)) else none

/-- The target field of a jump at `pc` to `label`; none where the label cannot be reached (R107). -/
def jumpField (pc label : Word) : Option (BitVec 26) :=
  if label.extractLsb' 0 2 = 0#2 ∧ label.extractLsb' 28 4 = (pc + 4#32).extractLsb' 28 4 then
    some (label.extractLsb' 2 26)
  else none

/-- One piece of an expansion. `skip mk n` is the branch `skip` of R121, over the next `n` pieces. -/
inductive Item where
  | word (i : Instr)
  | branch (i : Instr)
  | skip (mk : Half → Instr) (n : Nat)

/-- The `nop` an assembler puts into a branch's delay slot (R471 f). -/
def slotNop (delay : Bool) : List Instr := if delay then [.sll 0#5 0#5 0#5] else []

/-- How many words a piece takes. -/
def Item.size (delay : Bool) : Item → Nat
  | .word _ => 1
  | .branch _ => if delay then 2 else 1
  | .skip _ _ => if delay then 2 else 1

/-- How many words the first `n` pieces take. -/
def itemsSize (delay : Bool) : Nat → List Item → Nat
  | 0, _ => 0
  | _, [] => 0
  | n + 1, it :: rest => it.size delay + itemsSize delay n rest

/-- The words of an expansion, each internal offset adjusted to the delay slots it passes (R471 f). -/
def layout (delay : Bool) : List Item → List Instr
  | [] => []
  | .word i :: rest => i :: layout delay rest
  | .branch i :: rest => i :: (slotNop delay ++ layout delay rest)
  | .skip mk n :: rest =>
    mk (BitVec.ofNat 16 ((slotNop delay).length + itemsSize delay n rest)) ::
      (slotNop delay ++ layout delay rest)

/-- `li rd, k` (R200): its four cases, tested in this order. -/
def liWords (rd : RegIdx) (k : Word) : List Instr :=
  if -32768 ≤ k.toInt ∧ k.toInt ≤ 32767 then [.addiu rd 0#5 (k.extractLsb' 0 16)]
  else if 32768 ≤ k.toNat ∧ k.toNat ≤ 65535 then [.ori rd 0#5 (k.extractLsb' 0 16)]
  else if k.extractLsb' 0 16 = 0#16 then [.lui rd (k.extractLsb' 16 16)]
  else [.lui rd (k.extractLsb' 16 16), .ori rd rd (k.extractLsb' 0 16)]

/-- The word a constant of the source stands for, taken modulo 2^32; none where the assembler refuses it (R121's row of
`li`, R200). -/
def constantWord (k : Int) : Option Word :=
  if -2 ^ 31 ≤ k ∧ k < 2 ^ 32 then some (BitVec.ofInt 32 k) else none

/-- `li $at, k` for a constant of the source, where the assembler accepts it (R118). -/
def constantToAt (k : Int) : Option (List Instr) := (constantWord k).map (liWords regAt)

/-- The constant of an operand goes through `$at` (R118); a register operand is used as it is. -/
def withSrc (src : Src2) (f : RegIdx → List Item) : List Item :=
  match src with
  | .reg r => f r
  | .const k => (liWords regAt k).map .word ++ f regAt

/-- The upper half `H` of R119, chosen so that `(H << 16) + sext_16(L)` is the address. -/
def addressHigh (a : Word) : Half := (a + 0x8000#32).extractLsb' 16 16

/-- A load or store with an `address` operand (R119). -/
def memWords (op : Half → RegIdx → Instr) : Address → List Instr
  | .offset k r => [op k r]
  | .absolute a => [.lui regAt (addressHigh a), op (a.extractLsb' 0 16) regAt]
  | .indexed a r => [.lui regAt (addressHigh a), .addu regAt regAt r, op (a.extractLsb' 0 16) regAt]

/-- `la rd, address` (R121, R282). -/
def laWords (rd : RegIdx) : Address → List Instr
  | .offset k r => [.addiu rd r k]
  | .absolute a => [.lui regAt (a.extractLsb' 16 16), .ori rd regAt (a.extractLsb' 0 16)]
  | .indexed a r =>
    [.lui regAt (a.extractLsb' 16 16), .ori regAt regAt (a.extractLsb' 0 16), .addu rd regAt r]

/-- The negated distance `(32-k)[4:0]` of the constant rotates (R121). -/
def rotateRest (k : Word) : BitVec 5 := (32#32 - k).extractLsb' 0 5

/-- The two byte loads of `ulh` and `ulhu` and their merge (R121, R292, R293); `first` loads the upper byte. -/
def unalignedHalf (big : Bool) (first : RegIdx → Half → RegIdx → Instr) (rd : RegIdx) (k : Half)
    (base : RegIdx) : List Item :=
  [.word (first rd (if big then k else k + 1#16) base),
   .word (.lbu regAt (if big then k + 1#16 else k) base),
   .word (.sll rd rd 8#5), .word (.or rd rd regAt)]

/-- The bare branches and jumps: the instructions that have a delay slot (R471 a). -/
def isTransfer : Instr → Bool
  | .beq _ _ _ | .bne _ _ _ | .bgez _ _ | .bltz _ _ | .bgtz _ _ | .blez _ _ | .bgezal _ _ | .bltzal _ _
  | .bc0f _ | .bc0t _ | .bc1f _ | .bc1t _ | .bc2f _ | .bc2t _ | .bc3f _ | .bc3t _
  | .j _ | .jal _ | .jr _ | .jalr _ _ => true
  | _ => false

/-- The pieces of each pseudoinstruction's reference expansion (R121); a bare instruction is itself. `rem` has no
`break 6`, as R178, R164 and R121 have it against the last sentences of R402 (DEDUCED, notes/assumptions 32). -/
def expansion (big : Bool) : Instr → List Item
  | .pAbs rd rs => [.word (.addu rd 0#5 rs), .skip (.bgez rs) 1, .word (.sub rd 0#5 rs)]
  | .pDiv rd rs src => withSrc src fun rt =>
      [.skip (.bne rt 0#5) 1, .word (.brk 7#20), .word (.div rs rt), .word (.nor regAt rt 0#5),
       .skip (.bne regAt 0#5) 3, .word (.lui regAt 0x8000#16), .skip (.bne rs regAt) 1,
       .word (.brk 6#20), .word (.mflo rd)]
  | .pDivu rd rs src => withSrc src fun rt =>
      [.skip (.bne rt 0#5) 1, .word (.brk 7#20), .word (.divu rs rt), .word (.mflo rd)]
  | .pMul rd rs src => withSrc src fun rt => [.word (.mult rs rt), .word (.mflo rd)]
  | .pMulo rd rs src => withSrc src fun rt =>
      [.word (.mult rs rt), .word (.mfhi regAt), .word (.mflo rd), .word (.sra rd rd 31#5),
       .skip (.beq rd regAt) 1, .word (.brk 6#20), .word (.mflo rd)]
  | .pMulou rd rs src => withSrc src fun rt =>
      [.word (.multu rs rt), .word (.mfhi regAt), .skip (.beq regAt 0#5) 1, .word (.brk 6#20),
       .word (.mflo rd)]
  | .pNeg rd rs => [.word (.sub rd 0#5 rs)]
  | .pNegu rd rs => [.word (.subu rd 0#5 rs)]
  | .pNot rd rs => [.word (.nor rd rs 0#5)]
  | .pRem rd rs src => withSrc src fun rt =>
      [.skip (.bne rt 0#5) 1, .word (.brk 7#20), .word (.div rs rt), .word (.mfhi rd)]
  | .pRemu rd rs src => withSrc src fun rt =>
      [.skip (.bne rt 0#5) 1, .word (.brk 7#20), .word (.divu rs rt), .word (.mfhi rd)]
  | .pRol rd rs rt =>
      [.word (.subu regAt 0#5 rt), .word (.srlv regAt rs regAt), .word (.sllv rd rs rt),
       .word (.or rd rd regAt)]
  | .pRolConst rd rs k =>
      [.word (.sll regAt rs (k.extractLsb' 0 5)), .word (.srl rd rs (rotateRest k)),
       .word (.or rd rd regAt)]
  | .pRor rd rs rt =>
      [.word (.subu regAt 0#5 rt), .word (.sllv regAt rs regAt), .word (.srlv rd rs rt),
       .word (.or rd rd regAt)]
  | .pRorConst rd rs k =>
      [.word (.srl regAt rs (k.extractLsb' 0 5)), .word (.sll rd rs (rotateRest k)),
       .word (.or rd rd regAt)]
  | .pLi rd k => (liWords rd k).map .word
  | .pSeq rd rs src => withSrc src fun rt => [.word (.xor rd rs rt), .word (.sltiu rd rd 1#16)]
  | .pSge rd rs src => withSrc src fun rt => [.word (.slt rd rs rt), .word (.xori rd rd 1#16)]
  | .pSgeu rd rs src => withSrc src fun rt => [.word (.sltu rd rs rt), .word (.xori rd rd 1#16)]
  | .pSgt rd rs src => withSrc src fun rt => [.word (.slt rd rt rs)]
  | .pSgtu rd rs src => withSrc src fun rt => [.word (.sltu rd rt rs)]
  | .pSle rd rs src => withSrc src fun rt => [.word (.slt rd rt rs), .word (.xori rd rd 1#16)]
  | .pSleu rd rs src => withSrc src fun rt => [.word (.sltu rd rt rs), .word (.xori rd rd 1#16)]
  | .pSne rd rs src => withSrc src fun rt => [.word (.xor rd rs rt), .word (.sltu rd 0#5 rd)]
  | .pB off => [.branch (.beq 0#5 0#5 off)]
  | .pBeqz rs off => [.branch (.beq rs 0#5 off)]
  | .pBge rs src off => withSrc src fun rt => [.word (.slt regAt rs rt), .branch (.beq regAt 0#5 off)]
  | .pBgeu rs src off => withSrc src fun rt => [.word (.sltu regAt rs rt), .branch (.beq regAt 0#5 off)]
  | .pBgt rs src off => withSrc src fun rt => [.word (.slt regAt rt rs), .branch (.bne regAt 0#5 off)]
  | .pBgtu rs src off => withSrc src fun rt => [.word (.sltu regAt rt rs), .branch (.bne regAt 0#5 off)]
  | .pBle rs src off => withSrc src fun rt => [.word (.slt regAt rt rs), .branch (.beq regAt 0#5 off)]
  | .pBleu rs src off => withSrc src fun rt => [.word (.sltu regAt rt rs), .branch (.beq regAt 0#5 off)]
  | .pBlt rs src off => withSrc src fun rt => [.word (.slt regAt rs rt), .branch (.bne regAt 0#5 off)]
  | .pBltu rs src off => withSrc src fun rt => [.word (.sltu regAt rs rt), .branch (.bne regAt 0#5 off)]
  | .pBnez rs off => [.branch (.bne rs 0#5 off)]
  | .pLa rd addr => (laWords rd addr).map .word
  | .pLd rd k base => [.word (.lw rd k base), .word (.lw (rd + 1#5) (k + 4#16) base)]
  | .pUlh rd k base => unalignedHalf big .lb rd k base
  | .pUlhu rd k base => unalignedHalf big .lbu rd k base
  | .pUlw rd k base =>
      [.word (.lwl rd (if big then k else k + 3#16) base),
       .word (.lwr rd (if big then k + 3#16 else k) base)]
  | .pSd rs k base => [.word (.sw rs k base), .word (.sw (rs + 1#5) (k + 4#16) base)]
  | .pUsh rs k base =>
      [.word (.sb rs (if big then k + 1#16 else k) base), .word (.srl regAt rs 8#5),
       .word (.sb regAt (if big then k else k + 1#16) base)]
  | .pUsw rs k base =>
      [.word (.swl rs (if big then k else k + 3#16) base),
       .word (.swr rs (if big then k + 3#16 else k) base)]
  | .pMove rd rs => [.word (.addu rd 0#5 rs)]
  | .pMfc1D rd fs => [.word (.mfc1 rd fs), .word (.mfc1 (rd + 1#5) (fs + 1#5))]
  | .pLoadD fd k base =>
      [.word (.lwc1 (if big then fd + 1#5 else fd) k base),
       .word (.lwc1 (if big then fd else fd + 1#5) (k + 4#16) base)]
  | .pLoadS fd addr => (memWords (.lwc1 fd) addr).map .word
  | .pStoreD fs k base =>
      [.word (.swc1 (if big then fs + 1#5 else fs) k base),
       .word (.swc1 (if big then fs else fs + 1#5) (k + 4#16) base)]
  | .pStoreS fs addr => (memWords (.swc1 fs) addr).map .word
  | .pNop => [.word (.sll 0#5 0#5 0#5)]
  | i => if isTransfer i then [.branch i] else [.word i]

/-- The bare instructions the assembler emits for an instruction (R121): itself for a bare one, and where the
machine has delay slots a `nop` after every branch and jump (R471 f). -/
def expand (big delay : Bool) (i : Instr) : List Instr := layout delay (expansion big i)

/-- The bare mnemonics whose `Src2` the assembler may be given as a constant (R118). -/
inductive Src2Op where
  | add | addu | sub | subu | and | or | xor | nor | slt | sltu | sll | srl | sra
  deriving DecidableEq, Repr

/-- The register form of an operation with `Src2`. -/
def Src2Op.registerForm : Src2Op → RegIdx → RegIdx → RegIdx → Instr
  | .add, rd, rs, rt => .add rd rs rt
  | .addu, rd, rs, rt => .addu rd rs rt
  | .sub, rd, rs, rt => .sub rd rs rt
  | .subu, rd, rs, rt => .subu rd rs rt
  | .and, rd, rs, rt => .and rd rs rt
  | .or, rd, rs, rt => .or rd rs rt
  | .xor, rd, rs, rt => .xor rd rs rt
  | .nor, rd, rs, rt => .nor rd rs rt
  | .slt, rd, rs, rt => .slt rd rs rt
  | .sltu, rd, rs, rt => .sltu rd rs rt
  | .sll, rd, rs, rt => .sllv rd rs rt
  | .srl, rd, rs, rt => .srlv rd rs rt
  | .sra, rd, rs, rt => .srav rd rs rt

/-- The immediate form of an operation for the constant `k`, where there is one and `k` fits (R118). -/
def Src2Op.immediateForm (rd rs : RegIdx) (k : Int) : Src2Op → Option Instr
  | .add => if -32768 ≤ k ∧ k ≤ 32767 then some (.addi rd rs (BitVec.ofInt 16 k)) else none
  | .addu => if -32768 ≤ k ∧ k ≤ 32767 then some (.addiu rd rs (BitVec.ofInt 16 k)) else none
  | .slt => if -32768 ≤ k ∧ k ≤ 32767 then some (.slti rd rs (BitVec.ofInt 16 k)) else none
  | .sltu => if -32768 ≤ k ∧ k ≤ 32767 then some (.sltiu rd rs (BitVec.ofInt 16 k)) else none
  | .and => if 0 ≤ k ∧ k ≤ 65535 then some (.andi rd rs (BitVec.ofInt 16 k)) else none
  | .or => if 0 ≤ k ∧ k ≤ 65535 then some (.ori rd rs (BitVec.ofInt 16 k)) else none
  | .xor => if 0 ≤ k ∧ k ≤ 65535 then some (.xori rd rs (BitVec.ofInt 16 k)) else none
  | .sub => if -32767 ≤ k ∧ k ≤ 32768 then some (.addi rd rs (BitVec.ofInt 16 (-k))) else none
  | .subu => if -32767 ≤ k ∧ k ≤ 32768 then some (.addiu rd rs (BitVec.ofInt 16 (-k))) else none
  | .sll => some (.sll rd rs (BitVec.ofInt 5 k))
  | .srl => some (.srl rd rs (BitVec.ofInt 5 k))
  | .sra => some (.sra rd rs (BitVec.ofInt 5 k))
  | .nor => none

/-- What the assembler emits for a bare mnemonic with a constant `Src2`; none where the constant has no immediate form
and `li` refuses it (R118, R160, R121). `$at` is accepted as an operand:
R121's ban stands in the pseudoinstructions' rule and R118 is silent (DESIGN CHOICE, notes/assumptions 31). -/
def Src2Op.withConstant (op : Src2Op) (rd rs : RegIdx) (k : Int) : Option (List Instr) :=
  match op.immediateForm rd rs k with
  | some i => some [i]
  | none => (constantToAt k).map (· ++ [op.registerForm rd rs regAt])

/-- What the assembler emits for a bare load or store with any address operand (R119). `$at` is accepted as an operand:
R119 is silent (DESIGN CHOICE, notes/assumptions 31). -/
def withAddress (op : RegIdx → Half → RegIdx → Instr) (rt : RegIdx) (addr : Address) : List Instr :=
  memWords (op rt) addr

/-- What the assembler emits for `beq` or `bne` with a constant `Src2` (R261), a `nop` in the delay slot where there
is one (R471 f); none where `li` refuses the constant (R121). `$at` is accepted as an operand (DESIGN CHOICE,
notes/assumptions 31). -/
def branchWithConstant (delay : Bool) (op : RegIdx → RegIdx → Half → Instr) (rs : RegIdx) (k : Int)
    (off : Half) : Option (List Instr) :=
  (constantToAt k).map fun li => layout delay (li.map .word ++ [.branch (op rs regAt off)])

end Sys2Proof
end

