-- ==== Sys2Proof/WellFormed.lean ====
section
/-! DEFINITION. Which instructions are well formed: the operand restrictions that the field widths of
Instr do not already say (R121, R350). Every bare integer instruction is well formed: any field value is
an instruction of the bare machine. -/

namespace Sys2Proof

/-- "floating point operations only use even-numbered registers" (R41, R350). -/
def evenReg (r : RegIdx) : Bool := !r.getLsbD 0

/-- A pseudoinstruction's operand must not be `$at` (R121). -/
def notAt (r : RegIdx) : Bool := r != regAt

/-- A `Src2` operand must not be `$at` (R121); a constant may be any value. -/
def Src2.notAt : Src2 → Bool
  | .reg r => Sys2Proof.notAt r
  | .const _ => true

/-- An address operand must not name `$at` (R121). -/
def Address.notAt : Address → Bool
  | .offset _ r => Sys2Proof.notAt r
  | .absolute _ => true
  | .indexed _ r => Sys2Proof.notAt r

/-- `k` and `k + d` lie in the 16-bit signed range (R121). -/
def offsetFits (k : Half) (d : Nat) : Bool := decide (k.toInt + d ≤ 32767)

/-- The restrictions on operands: even floating point registers (R350), and for the pseudoinstructions the
last column of R121's table. -/
def wellFormed : Instr → Bool
  | .addD fd fs ft | .addS fd fs ft | .subD fd fs ft | .subS fd fs ft
  | .mulD fd fs ft | .mulS fd fs ft | .divD fd fs ft | .divS fd fs ft =>
    evenReg fd && evenReg fs && evenReg ft
  | .absD fd fs | .absS fd fs | .movD fd fs | .movS fd fs | .negD fd fs | .negS fd fs
  | .cvtDS fd fs | .cvtDW fd fs | .cvtSD fd fs | .cvtSW fd fs | .cvtWD fd fs | .cvtWS fd fs =>
    evenReg fd && evenReg fs
  | .cEqD fs ft | .cEqS fs ft | .cLeD fs ft | .cLeS fs ft | .cLtD fs ft | .cLtS fs ft =>
    evenReg fs && evenReg ft
  | .pAbs rd rs | .pNeg rd rs | .pNegu rd rs | .pNot rd rs | .pMove rd rs => notAt rd && notAt rs
  | .pMulo rd rs src => notAt rd && notAt rs && src.notAt && rd != 0#5
  | .pDiv rd rs src | .pDivu rd rs src | .pMul rd rs src | .pMulou rd rs src
  | .pRem rd rs src | .pRemu rd rs src | .pSeq rd rs src | .pSge rd rs src | .pSgeu rd rs src
  | .pSgt rd rs src | .pSgtu rd rs src | .pSle rd rs src | .pSleu rd rs src | .pSne rd rs src =>
    notAt rd && notAt rs && src.notAt
  | .pRol rd rs rt | .pRor rd rs rt => notAt rd && notAt rs && notAt rt
  | .pRolConst rd rs _ | .pRorConst rd rs _ => notAt rd && notAt rs
  | .pLi rd _ => notAt rd
  | .pBeqz rs _ | .pBnez rs _ => notAt rs
  | .pBge rs src _ | .pBgeu rs src _ | .pBgt rs src _ | .pBgtu rs src _
  | .pBle rs src _ | .pBleu rs src _ | .pBlt rs src _ | .pBltu rs src _ => notAt rs && src.notAt
  | .pLa rd addr => notAt rd && addr.notAt
  | .pLd rd k base => notAt rd && notAt base && rd != 31#5 && rd != base && offsetFits k 4
  | .pUlh rd k base | .pUlhu rd k base => notAt rd && notAt base && rd != base && offsetFits k 1
  | .pUlw rd k base => notAt rd && notAt base && rd != base && offsetFits k 3
  | .pSd rs k base => notAt rs && notAt base && rs != 31#5 && offsetFits k 4
  | .pUsh rs k base => notAt rs && notAt base && offsetFits k 1
  | .pUsw rs k base => notAt rs && notAt base && offsetFits k 3
  | .pMfc1D rd fs => notAt rd && rd != 31#5 && evenReg fs
  | .pLoadD fd k base => evenReg fd && notAt base && offsetFits k 4
  | .pStoreD fs k base => evenReg fs && notAt base && offsetFits k 4
  | .pLoadS fd addr => evenReg fd && addr.notAt
  | .pStoreS fs addr => evenReg fs && addr.notAt
  | .pB _ | .pNop => true
  | .sll _ _ _ | .srl _ _ _ | .sra _ _ _ | .sllv _ _ _ | .srlv _ _ _ | .srav _ _ _
  | .jr _ | .jalr _ _ | .syscall _ | .brk _ | .mfhi _ | .mthi _ | .mflo _ | .mtlo _
  | .mult _ _ | .multu _ _ | .div _ _ | .divu _ _ | .add _ _ _ | .addu _ _ _ | .sub _ _ _
  | .subu _ _ _ | .and _ _ _ | .or _ _ _ | .xor _ _ _ | .nor _ _ _ | .slt _ _ _ | .sltu _ _ _
  | .bltz _ _ | .bgez _ _ | .bltzal _ _ | .bgezal _ _ | .j _ | .jal _ | .beq _ _ _ | .bne _ _ _
  | .blez _ _ | .bgtz _ _ | .addi _ _ _ | .addiu _ _ _ | .slti _ _ _ | .sltiu _ _ _
  | .andi _ _ _ | .ori _ _ _ | .xori _ _ _ | .lui _ _
  | .mfc0 _ _ | .mfc1 _ _ | .mfc2 _ _ | .mfc3 _ _ | .mtc0 _ _ | .mtc1 _ _ | .mtc2 _ _ | .mtc3 _ _
  | .bc0f _ | .bc1f _ | .bc2f _ | .bc3f _ | .bc0t _ | .bc1t _ | .bc2t _ | .bc3t _ | .rfe
  | .lb _ _ _ | .lh _ _ _ | .lwl _ _ _ | .lw _ _ _ | .lbu _ _ _ | .lhu _ _ _ | .lwr _ _ _
  | .sb _ _ _ | .sh _ _ _ | .swl _ _ _ | .sw _ _ _ | .swr _ _ _
  | .lwc0 _ _ _ | .lwc1 _ _ _ | .lwc2 _ _ _ | .lwc3 _ _ _
  | .swc0 _ _ _ | .swc1 _ _ _ | .swc2 _ _ _ | .swc3 _ _ _ => true

end Sys2Proof
end

