-- ==== Sys2Proof/Decode.lean ====
section
/-! DEFINITION. From words to instructions and back (30_encoding.md).

The decoder is total and strict (R113): a word is an instruction of the table, a reserved instruction
(R112), or one of the two kinds of words the spec refuses. The encoder after it is written from the same
patterns (R111). -/

namespace Sys2Proof

/-- What a word is. -/
inductive Decoded where
  /-- the word selects this row of the table (R111) -/
  | instr (i : Instr)
  /-- no row and no word of R113: a reserved instruction (R112) -/
  | reserved
  /-- an instruction of the R2000 that the spec gives no meaning (R113 a) -/
  | unlisted
  /-- a row's word but for bits that the format wants zero (R113 b; notes/assumptions 14) -/
  | mustBeZero
  deriving DecidableEq, Repr

/-- Bits 31:26, the primary opcode (R101). -/
def fieldOp (w : Word) : BitVec 6 := w.extractLsb' 26 6
/-- Bits 25:21 (R101). -/
def fieldRs (w : Word) : RegIdx := w.extractLsb' 21 5
/-- Bits 20:16 (R101); `ft` of the FR format (R104). -/
def fieldRt (w : Word) : RegIdx := w.extractLsb' 16 5
/-- Bits 15:11 (R101); `fs` of the FR format (R104). -/
def fieldRd (w : Word) : RegIdx := w.extractLsb' 11 5
/-- Bits 10:6 (R101); `fd` of the FR format (R104). -/
def fieldShamt (w : Word) : BitVec 5 := w.extractLsb' 6 5
/-- Bits 5:0 (R101). -/
def fieldFunct (w : Word) : BitVec 6 := w.extractLsb' 0 6
/-- Bits 15:0 (R102). -/
def fieldImm (w : Word) : Half := w.extractLsb' 0 16
/-- Bits 25:0 (R103). -/
def fieldTarget (w : Word) : BitVec 26 := w.extractLsb' 0 26
/-- Bits 25:6, the code of `syscall` and `break` (R109). -/
def fieldCode (w : Word) : BitVec 20 := w.extractLsb' 6 20
/-- Bits 10:0, zero in the coprocessor moves (R104). -/
def fieldLow11 (w : Word) : BitVec 11 := w.extractLsb' 0 11

/-- A row selected by its fixed bits; its unused fields must be zero (R113 b). -/
def strictly (unusedZero : Bool) (i : Instr) : Decoded :=
  if unusedZero then .instr i else .mustBeZero

/-- The SPECIAL map, primary opcode 00 (R111). -/
def decodeSpecial (w : Word) : Decoded :=
  let rs := fieldRs w
  let rt := fieldRt w
  let rd := fieldRd w
  let sh := fieldShamt w
  match (fieldFunct w).toNat with
  | 0x00 => strictly (rs == 0#5) (.sll rd rt sh)
  | 0x02 => strictly (rs == 0#5) (.srl rd rt sh)
  | 0x03 => strictly (rs == 0#5) (.sra rd rt sh)
  | 0x04 => strictly (sh == 0#5) (.sllv rd rt rs)
  | 0x06 => strictly (sh == 0#5) (.srlv rd rt rs)
  | 0x07 => strictly (sh == 0#5) (.srav rd rt rs)
  | 0x08 => strictly (rt == 0#5 && rd == 0#5 && sh == 0#5) (.jr rs)
  | 0x09 => strictly (rt == 0#5 && sh == 0#5) (.jalr rd rs)
  | 0x0c => .instr (.syscall (fieldCode w))
  | 0x0d => .instr (.brk (fieldCode w))
  | 0x10 => strictly (rs == 0#5 && rt == 0#5 && sh == 0#5) (.mfhi rd)
  | 0x11 => strictly (rt == 0#5 && rd == 0#5 && sh == 0#5) (.mthi rs)
  | 0x12 => strictly (rs == 0#5 && rt == 0#5 && sh == 0#5) (.mflo rd)
  | 0x13 => strictly (rt == 0#5 && rd == 0#5 && sh == 0#5) (.mtlo rs)
  | 0x18 => strictly (rd == 0#5 && sh == 0#5) (.mult rs rt)
  | 0x19 => strictly (rd == 0#5 && sh == 0#5) (.multu rs rt)
  | 0x1a => strictly (rd == 0#5 && sh == 0#5) (.div rs rt)
  | 0x1b => strictly (rd == 0#5 && sh == 0#5) (.divu rs rt)
  | 0x20 => strictly (sh == 0#5) (.add rd rs rt)
  | 0x21 => strictly (sh == 0#5) (.addu rd rs rt)
  | 0x22 => strictly (sh == 0#5) (.sub rd rs rt)
  | 0x23 => strictly (sh == 0#5) (.subu rd rs rt)
  | 0x24 => strictly (sh == 0#5) (.and rd rs rt)
  | 0x25 => strictly (sh == 0#5) (.or rd rs rt)
  | 0x26 => strictly (sh == 0#5) (.xor rd rs rt)
  | 0x27 => strictly (sh == 0#5) (.nor rd rs rt)
  | 0x2a => strictly (sh == 0#5) (.slt rd rs rt)
  | 0x2b => strictly (sh == 0#5) (.sltu rd rs rt)
  | _ => .reserved

/-- The REGIMM map, primary opcode 01 (R111). -/
def decodeRegimm (w : Word) : Decoded :=
  match (fieldRt w).toNat with
  | 0x00 => .instr (.bltz (fieldRs w) (fieldImm w))
  | 0x01 => .instr (.bgez (fieldRs w) (fieldImm w))
  | 0x10 => .instr (.bltzal (fieldRs w) (fieldImm w))
  | 0x11 => .instr (.bgezal (fieldRs w) (fieldImm w))
  | _ => .reserved

/-- The coprocessor operations of coprocessor 0: `rfe`, and the TLB instructions the spec leaves out
(R104, R111, R113 a). -/
def decodeCop0Op (w : Word) : Decoded :=
  match (fieldFunct w).toNat with
  | 0x10 => strictly (w.extractLsb' 6 19 == 0#19) .rfe
  | 0x01 => .unlisted
  | 0x02 => .unlisted
  | 0x06 => .unlisted
  | 0x08 => .unlisted
  | _ => .reserved

/-- The floating point comparisons that the source does not list: `funct` 30 to 3f but 32, 3c, 3e (R113 a). -/
def unlistedCompare (funct : Nat) : Bool :=
  decide (0x30 ≤ funct) && funct != 0x32 && funct != 0x3c && funct != 0x3e

/-- The single-precision operations, `fmt` = 10000 (R104, R111). -/
def decodeFpSingle (w : Word) : Decoded :=
  let ft := fieldRt w
  let fs := fieldRd w
  let fd := fieldShamt w
  match (fieldFunct w).toNat with
  | 0x00 => .instr (.addS fd fs ft)
  | 0x01 => .instr (.subS fd fs ft)
  | 0x02 => .instr (.mulS fd fs ft)
  | 0x03 => .instr (.divS fd fs ft)
  | 0x05 => strictly (ft == 0#5) (.absS fd fs)
  | 0x06 => strictly (ft == 0#5) (.movS fd fs)
  | 0x07 => strictly (ft == 0#5) (.negS fd fs)
  | 0x21 => strictly (ft == 0#5) (.cvtDS fd fs)
  | 0x24 => strictly (ft == 0#5) (.cvtWS fd fs)
  | 0x32 => strictly (fd == 0#5) (.cEqS fs ft)
  | 0x3c => strictly (fd == 0#5) (.cLtS fs ft)
  | 0x3e => strictly (fd == 0#5) (.cLeS fs ft)
  | _ => .reserved

/-- The double-precision operations, `fmt` = 10001 (R104, R111). -/
def decodeFpDouble (w : Word) : Decoded :=
  let ft := fieldRt w
  let fs := fieldRd w
  let fd := fieldShamt w
  match (fieldFunct w).toNat with
  | 0x00 => .instr (.addD fd fs ft)
  | 0x01 => .instr (.subD fd fs ft)
  | 0x02 => .instr (.mulD fd fs ft)
  | 0x03 => .instr (.divD fd fs ft)
  | 0x05 => strictly (ft == 0#5) (.absD fd fs)
  | 0x06 => strictly (ft == 0#5) (.movD fd fs)
  | 0x07 => strictly (ft == 0#5) (.negD fd fs)
  | 0x20 => strictly (ft == 0#5) (.cvtSD fd fs)
  | 0x24 => strictly (ft == 0#5) (.cvtWD fd fs)
  | 0x32 => strictly (fd == 0#5) (.cEqD fs ft)
  | 0x3c => strictly (fd == 0#5) (.cLtD fs ft)
  | 0x3e => strictly (fd == 0#5) (.cLeD fs ft)
  | _ => .reserved

/-- The conversions from an integer, `fmt` = 10100 (R104, R111). -/
def decodeFpWord (w : Word) : Decoded :=
  let ft := fieldRt w
  let fs := fieldRd w
  let fd := fieldShamt w
  match (fieldFunct w).toNat with
  | 0x20 => strictly (ft == 0#5) (.cvtSW fd fs)
  | 0x21 => strictly (ft == 0#5) (.cvtDW fd fs)
  | _ => .reserved

/-- The coprocessor operations of coprocessor 1 (R104, R111, R113 a). -/
def decodeCop1Op (w : Word) : Decoded :=
  if unlistedCompare (fieldFunct w).toNat then .unlisted
  else
    match (fieldRs w).toNat with
    | 0x10 => decodeFpSingle w
    | 0x11 => decodeFpDouble w
    | 0x14 => decodeFpWord w
    | _ => .reserved

/-- The instructions of one coprocessor: its moves, its branches and its operations. -/
structure CopRows where
  mfc : RegIdx → RegIdx → Instr
  mtc : RegIdx → RegIdx → Instr
  bcf : Half → Instr
  bct : Half → Instr
  op : Word → Decoded

/-- The COPz map, primary opcodes 10 to 13 (R104, R111); rs 02 and 06 are the control moves (R113 a). -/
def decodeCop (c : CopRows) (w : Word) : Decoded :=
  match (fieldRs w).toNat with
  | 0x00 => strictly (fieldLow11 w == 0#11) (c.mfc (fieldRt w) (fieldRd w))
  | 0x04 => strictly (fieldLow11 w == 0#11) (c.mtc (fieldRt w) (fieldRd w))
  | 0x02 => .unlisted
  | 0x06 => .unlisted
  | 0x08 =>
    match (fieldRt w).toNat with
    | 0x00 => .instr (c.bcf (fieldImm w))
    | 0x01 => .instr (c.bct (fieldImm w))
    | _ => .reserved
  | n => if 0x10 ≤ n then c.op w else .reserved

/-- The instruction of a word (R110 to R113). -/
def decodeWord (w : Word) : Decoded :=
  let rs := fieldRs w
  let rt := fieldRt w
  let imm := fieldImm w
  match (fieldOp w).toNat with
  | 0x00 => decodeSpecial w
  | 0x01 => decodeRegimm w
  | 0x02 => .instr (.j (fieldTarget w))
  | 0x03 => .instr (.jal (fieldTarget w))
  | 0x04 => .instr (.beq rs rt imm)
  | 0x05 => .instr (.bne rs rt imm)
  | 0x06 => strictly (rt == 0#5) (.blez rs imm)
  | 0x07 => strictly (rt == 0#5) (.bgtz rs imm)
  | 0x08 => .instr (.addi rt rs imm)
  | 0x09 => .instr (.addiu rt rs imm)
  | 0x0a => .instr (.slti rt rs imm)
  | 0x0b => .instr (.sltiu rt rs imm)
  | 0x0c => .instr (.andi rt rs imm)
  | 0x0d => .instr (.ori rt rs imm)
  | 0x0e => .instr (.xori rt rs imm)
  | 0x0f => strictly (rs == 0#5) (.lui rt imm)
  | 0x10 => decodeCop ⟨.mfc0, .mtc0, .bc0f, .bc0t, decodeCop0Op⟩ w
  | 0x11 => decodeCop ⟨.mfc1, .mtc1, .bc1f, .bc1t, decodeCop1Op⟩ w
  | 0x12 => decodeCop ⟨.mfc2, .mtc2, .bc2f, .bc2t, fun _ => .unlisted⟩ w
  | 0x13 => decodeCop ⟨.mfc3, .mtc3, .bc3f, .bc3t, fun _ => .unlisted⟩ w
  | 0x20 => .instr (.lb rt imm rs)
  | 0x21 => .instr (.lh rt imm rs)
  | 0x22 => .instr (.lwl rt imm rs)
  | 0x23 => .instr (.lw rt imm rs)
  | 0x24 => .instr (.lbu rt imm rs)
  | 0x25 => .instr (.lhu rt imm rs)
  | 0x26 => .instr (.lwr rt imm rs)
  | 0x28 => .instr (.sb rt imm rs)
  | 0x29 => .instr (.sh rt imm rs)
  | 0x2a => .instr (.swl rt imm rs)
  | 0x2b => .instr (.sw rt imm rs)
  | 0x2e => .instr (.swr rt imm rs)
  | 0x30 => .instr (.lwc0 rt imm rs)
  | 0x31 => .instr (.lwc1 rt imm rs)
  | 0x32 => .instr (.lwc2 rt imm rs)
  | 0x33 => .instr (.lwc3 rt imm rs)
  | 0x38 => .instr (.swc0 rt imm rs)
  | 0x39 => .instr (.swc1 rt imm rs)
  | 0x3a => .instr (.swc2 rt imm rs)
  | 0x3b => .instr (.swc3 rt imm rs)
  | _ => .reserved

/-- The word that four bytes hold, the first at the lowest address (R62, R65). -/
def wordOfBytes (big : Bool) (b0 b1 b2 b3 : Byte) : Word :=
  if big then b0 ++ b1 ++ b2 ++ b3 else b3 ++ b2 ++ b1 ++ b0

/-- The four bytes that hold a word, the first at the lowest address (R62, R66). -/
def bytesOfWord (big : Bool) (w : Word) : List Byte :=
  if big then
    [w.extractLsb' 24 8, w.extractLsb' 16 8, w.extractLsb' 8 8, w.extractLsb' 0 8]
  else
    [w.extractLsb' 0 8, w.extractLsb' 8 8, w.extractLsb' 16 8, w.extractLsb' 24 8]

/-- The instruction at the head of a list of bytes, with the bytes that follow it; none where fewer than
four bytes are left (R100). -/
def decodeBytes (big : Bool) : List Byte → Option (Decoded × List Byte)
  | b0 :: b1 :: b2 :: b3 :: rest => some (decodeWord (wordOfBytes big b0 b1 b2 b3), rest)
  | _ => none

/-- The instruction that the decoder reads from the table's word `w`; every instruction is one 32-bit word
(R100), so `nbits` is 32 for every row that has bits. The bytes are laid out in little-endian order, the
byte order of the reset parameters; the other order gives the same word. -/
def decodeTableWord (nbits w : Nat) : Option Instr :=
  match decodeBytes false (bytesOfWord false (BitVec.ofNat 32 (w % 2 ^ nbits))) with
  | some (.instr i, _) => some i
  | _ => none

/-- The word of a bare instruction (R111, the table's patterns); a pseudoinstruction has no word of its own. -/
def encodeWord : Instr → Option Word
  | .sll rd rt shamt => some (0b000000#6 ++ 0b00000#5 ++ rt ++ rd ++ shamt ++ 0b000000#6)
  | .srl rd rt shamt => some (0b000000#6 ++ 0b00000#5 ++ rt ++ rd ++ shamt ++ 0b000010#6)
  | .sra rd rt shamt => some (0b000000#6 ++ 0b00000#5 ++ rt ++ rd ++ shamt ++ 0b000011#6)
  | .sllv rd rt rs => some (0b000000#6 ++ rs ++ rt ++ rd ++ 0b00000#5 ++ 0b000100#6)
  | .srlv rd rt rs => some (0b000000#6 ++ rs ++ rt ++ rd ++ 0b00000#5 ++ 0b000110#6)
  | .srav rd rt rs => some (0b000000#6 ++ rs ++ rt ++ rd ++ 0b00000#5 ++ 0b000111#6)
  | .jr rs => some (0b000000#6 ++ rs ++ 0b00000#5 ++ 0b00000#5 ++ 0b00000#5 ++ 0b001000#6)
  | .jalr rd rs => some (0b000000#6 ++ rs ++ 0b00000#5 ++ rd ++ 0b00000#5 ++ 0b001001#6)
  | .syscall code => some (0b000000#6 ++ code ++ 0b001100#6)
  | .brk code => some (0b000000#6 ++ code ++ 0b001101#6)
  | .mfhi rd => some (0b000000#6 ++ 0b00000#5 ++ 0b00000#5 ++ rd ++ 0b00000#5 ++ 0b010000#6)
  | .mthi rs => some (0b000000#6 ++ rs ++ 0b00000#5 ++ 0b00000#5 ++ 0b00000#5 ++ 0b010001#6)
  | .mflo rd => some (0b000000#6 ++ 0b00000#5 ++ 0b00000#5 ++ rd ++ 0b00000#5 ++ 0b010010#6)
  | .mtlo rs => some (0b000000#6 ++ rs ++ 0b00000#5 ++ 0b00000#5 ++ 0b00000#5 ++ 0b010011#6)
  | .mult rs rt => some (0b000000#6 ++ rs ++ rt ++ 0b00000#5 ++ 0b00000#5 ++ 0b011000#6)
  | .multu rs rt => some (0b000000#6 ++ rs ++ rt ++ 0b00000#5 ++ 0b00000#5 ++ 0b011001#6)
  | .div rs rt => some (0b000000#6 ++ rs ++ rt ++ 0b00000#5 ++ 0b00000#5 ++ 0b011010#6)
  | .divu rs rt => some (0b000000#6 ++ rs ++ rt ++ 0b00000#5 ++ 0b00000#5 ++ 0b011011#6)
  | .add rd rs rt => some (0b000000#6 ++ rs ++ rt ++ rd ++ 0b00000#5 ++ 0b100000#6)
  | .addu rd rs rt => some (0b000000#6 ++ rs ++ rt ++ rd ++ 0b00000#5 ++ 0b100001#6)
  | .sub rd rs rt => some (0b000000#6 ++ rs ++ rt ++ rd ++ 0b00000#5 ++ 0b100010#6)
  | .subu rd rs rt => some (0b000000#6 ++ rs ++ rt ++ rd ++ 0b00000#5 ++ 0b100011#6)
  | .and rd rs rt => some (0b000000#6 ++ rs ++ rt ++ rd ++ 0b00000#5 ++ 0b100100#6)
  | .or rd rs rt => some (0b000000#6 ++ rs ++ rt ++ rd ++ 0b00000#5 ++ 0b100101#6)
  | .xor rd rs rt => some (0b000000#6 ++ rs ++ rt ++ rd ++ 0b00000#5 ++ 0b100110#6)
  | .nor rd rs rt => some (0b000000#6 ++ rs ++ rt ++ rd ++ 0b00000#5 ++ 0b100111#6)
  | .slt rd rs rt => some (0b000000#6 ++ rs ++ rt ++ rd ++ 0b00000#5 ++ 0b101010#6)
  | .sltu rd rs rt => some (0b000000#6 ++ rs ++ rt ++ rd ++ 0b00000#5 ++ 0b101011#6)
  | .bltz rs imm => some (0b000001#6 ++ rs ++ 0b00000#5 ++ imm)
  | .bgez rs imm => some (0b000001#6 ++ rs ++ 0b00001#5 ++ imm)
  | .bltzal rs imm => some (0b000001#6 ++ rs ++ 0b10000#5 ++ imm)
  | .bgezal rs imm => some (0b000001#6 ++ rs ++ 0b10001#5 ++ imm)
  | .j target => some (0b000010#6 ++ target)
  | .jal target => some (0b000011#6 ++ target)
  | .beq rs rt imm => some (0b000100#6 ++ rs ++ rt ++ imm)
  | .bne rs rt imm => some (0b000101#6 ++ rs ++ rt ++ imm)
  | .blez rs imm => some (0b000110#6 ++ rs ++ 0b00000#5 ++ imm)
  | .bgtz rs imm => some (0b000111#6 ++ rs ++ 0b00000#5 ++ imm)
  | .addi rt rs imm => some (0b001000#6 ++ rs ++ rt ++ imm)
  | .addiu rt rs imm => some (0b001001#6 ++ rs ++ rt ++ imm)
  | .slti rt rs imm => some (0b001010#6 ++ rs ++ rt ++ imm)
  | .sltiu rt rs imm => some (0b001011#6 ++ rs ++ rt ++ imm)
  | .andi rt rs imm => some (0b001100#6 ++ rs ++ rt ++ imm)
  | .ori rt rs imm => some (0b001101#6 ++ rs ++ rt ++ imm)
  | .xori rt rs imm => some (0b001110#6 ++ rs ++ rt ++ imm)
  | .lui rt imm => some (0b001111#6 ++ 0b00000#5 ++ rt ++ imm)
  | .mfc0 rt rd => some (0b010000#6 ++ 0b00000#5 ++ rt ++ rd ++ 0b00000#5 ++ 0b000000#6)
  | .mfc1 rt rd => some (0b010001#6 ++ 0b00000#5 ++ rt ++ rd ++ 0b00000#5 ++ 0b000000#6)
  | .mfc2 rt rd => some (0b010010#6 ++ 0b00000#5 ++ rt ++ rd ++ 0b00000#5 ++ 0b000000#6)
  | .mfc3 rt rd => some (0b010011#6 ++ 0b00000#5 ++ rt ++ rd ++ 0b00000#5 ++ 0b000000#6)
  | .mtc0 rt rd => some (0b010000#6 ++ 0b00100#5 ++ rt ++ rd ++ 0b00000#5 ++ 0b000000#6)
  | .mtc1 rt rd => some (0b010001#6 ++ 0b00100#5 ++ rt ++ rd ++ 0b00000#5 ++ 0b000000#6)
  | .mtc2 rt rd => some (0b010010#6 ++ 0b00100#5 ++ rt ++ rd ++ 0b00000#5 ++ 0b000000#6)
  | .mtc3 rt rd => some (0b010011#6 ++ 0b00100#5 ++ rt ++ rd ++ 0b00000#5 ++ 0b000000#6)
  | .bc0f imm => some (0b010000#6 ++ 0b01000#5 ++ 0b00000#5 ++ imm)
  | .bc1f imm => some (0b010001#6 ++ 0b01000#5 ++ 0b00000#5 ++ imm)
  | .bc2f imm => some (0b010010#6 ++ 0b01000#5 ++ 0b00000#5 ++ imm)
  | .bc3f imm => some (0b010011#6 ++ 0b01000#5 ++ 0b00000#5 ++ imm)
  | .bc0t imm => some (0b010000#6 ++ 0b01000#5 ++ 0b00001#5 ++ imm)
  | .bc1t imm => some (0b010001#6 ++ 0b01000#5 ++ 0b00001#5 ++ imm)
  | .bc2t imm => some (0b010010#6 ++ 0b01000#5 ++ 0b00001#5 ++ imm)
  | .bc3t imm => some (0b010011#6 ++ 0b01000#5 ++ 0b00001#5 ++ imm)
  | .rfe => some (0b010000#6 ++ 0b10000#5 ++ 0b00000#5 ++ 0b00000#5 ++ 0b00000#5 ++ 0b010000#6)
  | .addD fd fs ft => some (0b010001#6 ++ 0b10001#5 ++ ft ++ fs ++ fd ++ 0b000000#6)
  | .addS fd fs ft => some (0b010001#6 ++ 0b10000#5 ++ ft ++ fs ++ fd ++ 0b000000#6)
  | .subD fd fs ft => some (0b010001#6 ++ 0b10001#5 ++ ft ++ fs ++ fd ++ 0b000001#6)
  | .subS fd fs ft => some (0b010001#6 ++ 0b10000#5 ++ ft ++ fs ++ fd ++ 0b000001#6)
  | .mulD fd fs ft => some (0b010001#6 ++ 0b10001#5 ++ ft ++ fs ++ fd ++ 0b000010#6)
  | .mulS fd fs ft => some (0b010001#6 ++ 0b10000#5 ++ ft ++ fs ++ fd ++ 0b000010#6)
  | .divD fd fs ft => some (0b010001#6 ++ 0b10001#5 ++ ft ++ fs ++ fd ++ 0b000011#6)
  | .divS fd fs ft => some (0b010001#6 ++ 0b10000#5 ++ ft ++ fs ++ fd ++ 0b000011#6)
  | .absD fd fs => some (0b010001#6 ++ 0b10001#5 ++ 0b00000#5 ++ fs ++ fd ++ 0b000101#6)
  | .absS fd fs => some (0b010001#6 ++ 0b10000#5 ++ 0b00000#5 ++ fs ++ fd ++ 0b000101#6)
  | .movD fd fs => some (0b010001#6 ++ 0b10001#5 ++ 0b00000#5 ++ fs ++ fd ++ 0b000110#6)
  | .movS fd fs => some (0b010001#6 ++ 0b10000#5 ++ 0b00000#5 ++ fs ++ fd ++ 0b000110#6)
  | .negD fd fs => some (0b010001#6 ++ 0b10001#5 ++ 0b00000#5 ++ fs ++ fd ++ 0b000111#6)
  | .negS fd fs => some (0b010001#6 ++ 0b10000#5 ++ 0b00000#5 ++ fs ++ fd ++ 0b000111#6)
  | .cvtDS fd fs => some (0b010001#6 ++ 0b10000#5 ++ 0b00000#5 ++ fs ++ fd ++ 0b100001#6)
  | .cvtDW fd fs => some (0b010001#6 ++ 0b10100#5 ++ 0b00000#5 ++ fs ++ fd ++ 0b100001#6)
  | .cvtSD fd fs => some (0b010001#6 ++ 0b10001#5 ++ 0b00000#5 ++ fs ++ fd ++ 0b100000#6)
  | .cvtSW fd fs => some (0b010001#6 ++ 0b10100#5 ++ 0b00000#5 ++ fs ++ fd ++ 0b100000#6)
  | .cvtWD fd fs => some (0b010001#6 ++ 0b10001#5 ++ 0b00000#5 ++ fs ++ fd ++ 0b100100#6)
  | .cvtWS fd fs => some (0b010001#6 ++ 0b10000#5 ++ 0b00000#5 ++ fs ++ fd ++ 0b100100#6)
  | .cEqD fs ft => some (0b010001#6 ++ 0b10001#5 ++ ft ++ fs ++ 0b00000#5 ++ 0b110010#6)
  | .cEqS fs ft => some (0b010001#6 ++ 0b10000#5 ++ ft ++ fs ++ 0b00000#5 ++ 0b110010#6)
  | .cLeD fs ft => some (0b010001#6 ++ 0b10001#5 ++ ft ++ fs ++ 0b00000#5 ++ 0b111110#6)
  | .cLeS fs ft => some (0b010001#6 ++ 0b10000#5 ++ ft ++ fs ++ 0b00000#5 ++ 0b111110#6)
  | .cLtD fs ft => some (0b010001#6 ++ 0b10001#5 ++ ft ++ fs ++ 0b00000#5 ++ 0b111100#6)
  | .cLtS fs ft => some (0b010001#6 ++ 0b10000#5 ++ ft ++ fs ++ 0b00000#5 ++ 0b111100#6)
  | .lb rt imm rs => some (0b100000#6 ++ rs ++ rt ++ imm)
  | .lh rt imm rs => some (0b100001#6 ++ rs ++ rt ++ imm)
  | .lwl rt imm rs => some (0b100010#6 ++ rs ++ rt ++ imm)
  | .lw rt imm rs => some (0b100011#6 ++ rs ++ rt ++ imm)
  | .lbu rt imm rs => some (0b100100#6 ++ rs ++ rt ++ imm)
  | .lhu rt imm rs => some (0b100101#6 ++ rs ++ rt ++ imm)
  | .lwr rt imm rs => some (0b100110#6 ++ rs ++ rt ++ imm)
  | .sb rt imm rs => some (0b101000#6 ++ rs ++ rt ++ imm)
  | .sh rt imm rs => some (0b101001#6 ++ rs ++ rt ++ imm)
  | .swl rt imm rs => some (0b101010#6 ++ rs ++ rt ++ imm)
  | .sw rt imm rs => some (0b101011#6 ++ rs ++ rt ++ imm)
  | .swr rt imm rs => some (0b101110#6 ++ rs ++ rt ++ imm)
  | .lwc0 rt imm rs => some (0b110000#6 ++ rs ++ rt ++ imm)
  | .lwc1 rt imm rs => some (0b110001#6 ++ rs ++ rt ++ imm)
  | .lwc2 rt imm rs => some (0b110010#6 ++ rs ++ rt ++ imm)
  | .lwc3 rt imm rs => some (0b110011#6 ++ rs ++ rt ++ imm)
  | .swc0 rt imm rs => some (0b111000#6 ++ rs ++ rt ++ imm)
  | .swc1 rt imm rs => some (0b111001#6 ++ rs ++ rt ++ imm)
  | .swc2 rt imm rs => some (0b111010#6 ++ rs ++ rt ++ imm)
  | .swc3 rt imm rs => some (0b111011#6 ++ rs ++ rt ++ imm)
  | .pAbs _ _ => none
  | .pDiv _ _ _ => none
  | .pDivu _ _ _ => none
  | .pMul _ _ _ => none
  | .pMulo _ _ _ => none
  | .pMulou _ _ _ => none
  | .pNeg _ _ => none
  | .pNegu _ _ => none
  | .pNot _ _ => none
  | .pRem _ _ _ => none
  | .pRemu _ _ _ => none
  | .pRol _ _ _ => none
  | .pRolConst _ _ _ => none
  | .pRor _ _ _ => none
  | .pRorConst _ _ _ => none
  | .pLi _ _ => none
  | .pSeq _ _ _ => none
  | .pSge _ _ _ => none
  | .pSgeu _ _ _ => none
  | .pSgt _ _ _ => none
  | .pSgtu _ _ _ => none
  | .pSle _ _ _ => none
  | .pSleu _ _ _ => none
  | .pSne _ _ _ => none
  | .pB _ => none
  | .pBeqz _ _ => none
  | .pBge _ _ _ => none
  | .pBgeu _ _ _ => none
  | .pBgt _ _ _ => none
  | .pBgtu _ _ _ => none
  | .pBle _ _ _ => none
  | .pBleu _ _ _ => none
  | .pBlt _ _ _ => none
  | .pBltu _ _ _ => none
  | .pBnez _ _ => none
  | .pLa _ _ => none
  | .pLd _ _ _ => none
  | .pUlh _ _ _ => none
  | .pUlhu _ _ _ => none
  | .pUlw _ _ _ => none
  | .pSd _ _ _ => none
  | .pUsh _ _ _ => none
  | .pUsw _ _ _ => none
  | .pMove _ _ => none
  | .pMfc1D _ _ => none
  | .pLoadD _ _ _ => none
  | .pLoadS _ _ => none
  | .pStoreD _ _ _ => none
  | .pStoreS _ _ => none
  | .pNop => none

/-- The words of an instruction: one for a bare instruction, those of its reference expansion for a
pseudoinstruction (R121, R122). -/
def encode (big delay : Bool) (i : Instr) : List Word := (expand big delay i).filterMap encodeWord

end Sys2Proof
end

