-- ==== Sys2Proof/Config.lean ====
section
/-! DEFINITION. What an implementation fixes (the parameters of R7) and the values the spec leaves open.

The parameters are plain data that a run carries in `State.params` and no step changes (R45), so every
statement about all states is a statement about every setting. The open values are opaque constants:
nothing in Lean can evaluate one or prove a value of it ("any value" of R10). -/

namespace Sys2Proof

/-- `DivNumerics` of R7 and R179: the signed division of negative operands. -/
inductive DivNumerics where
  /-- quotient toward zero, remainder with the dividend's sign (the suggested setting) -/
  | trunc
  /-- the spec's `open`: the quotient rounded either way, the remainder any value -/
  | unspecified
  deriving DecidableEq, Repr

/-- `FpNumerics` of R7 and R351: the family of functions that gives floating point results. -/
inductive FpNumerics where
  /-- the suggested instance of R351: IEEE 754 binary32 and binary64, round to nearest even -/
  | ieee754
  /-- any other family: uninterpreted functions of the operands -/
  | unspecified
  deriving DecidableEq, Repr

/-- `SYSCALL_MODE` of R7 and R401. -/
inductive SyscallMode where
  /-- the hardware exception, code 8 -/
  | trap
  /-- the environment's host function -/
  | hostService
  deriving DecidableEq, Repr

/-- A run of consecutive byte addresses at which memory responds; `MemMap` is a list of them (R60). -/
structure Region where
  base : Nat
  size : Nat
  deriving DecidableEq, Repr

/-- The named parameters of R7. `ILEN` is not among them: it is 32 in every run (R100); `IntInput` is the
environment's and stands in State, since it changes from step to step (R430). -/
structure Params where
  /-- `BIG_ENDIAN`: byte order of data and of instruction words (R63) -/
  bigEndian : Bool
  /-- `BRANCH_DELAY_SLOT` (R231, R471) -/
  branchDelaySlot : Bool
  /-- `LOAD_DELAY_SLOT` (R281, R472) -/
  loadDelaySlot : Bool
  /-- `EXC_VECTOR`: where control goes on an exception (R427) -/
  excVector : Word
  /-- `RESET_PC`: the pc after reset (R461) -/
  resetPc : Word
  /-- `MemMap`: the addresses at which memory responds (R60) -/
  memMap : List Region
  /-- `ENFORCE_KUSEG`: whether user mode is kept below 0x80000000 (R77) -/
  enforceKuseg : Bool
  /-- `FETCH_SEES_STORES`: whether a store is seen by a later fetch (R82) -/
  fetchSeesStores : Bool
  /-- `DivNumerics` (R179) -/
  divNumerics : DivNumerics
  /-- `FpNumerics` (R351) -/
  fpNumerics : FpNumerics
  /-- `SYSCALL_MODE` (R401) -/
  syscallMode : SyscallMode
  /-- `IntBit`: the bit position of interrupt level 0, 1, 2, 3, 4 in `Status` and `Cause` (R36, R38) -/
  intBit : Vector Nat 5
  deriving DecidableEq, Repr

/-- What R7 asks of `IntBit`: five distinct positions in 6..30. -/
def Params.wf (p : Params) : Bool :=
  p.intBit.toList.all (fun b => decide (6 ≤ b) && decide (b ≤ 30)) && decide p.intBit.toList.Nodup

/-- The setting the model resets with: every suggested value and default of R7; for the parameters that R7
leaves open (byte order, reset address, memory map, instruction coherence) the choices of notes/assumptions
3 to 6. -/
def Params.initial : Params where
  bigEndian := false
  branchDelaySlot := false
  loadDelaySlot := false
  excVector := 0x80000080#32
  resetPc := 0xbfc00000#32
  memMap := [⟨0, 2 ^ 32⟩]
  enforceKuseg := false
  fetchSeesStores := true
  divNumerics := .trunc
  fpNumerics := .ieee754
  syscallMode := .trap
  intBit := #v[10, 11, 12, 13, 14]

/-- The two-operand floating point operations of R351. -/
inductive FpBin where
  | add | sub | mul | div
  deriving DecidableEq, Repr

/-- The one-operand floating point operations of R351 that keep the format. -/
inductive FpUn where
  | abs | neg
  deriving DecidableEq, Repr

/-- The floating point comparisons of R351. -/
inductive FpCmp where
  | eq | lt | le
  deriving DecidableEq, Repr

/-- Which open value a draw stands for; one step may make several draws. -/
inductive FreeUse where
  /-- a general register read in its load's delay slot (R472) -/
  | delayedGpr (r : RegIdx)
  /-- a floating point register read in its load's delay slot (R472) -/
  | delayedFpr (r : RegIdx)
  /-- the bits of `Status` no text describes, on a read (R36) -/
  | statusBits
  /-- the bits of `Cause` no text describes, on a read (R38) -/
  | causeBits
  /-- `lo` after a division without a stated quotient; its low bit chooses the rounding under `open` (R179) -/
  | quotient
  /-- `hi` after a division without a stated remainder (R179) -/
  | remainder
  /-- an integer conversion out of range or of no number (R367) -/
  | convertedInt
  /-- `$at` after a pseudoinstruction that writes it (R121 b) -/
  | assemblerTemp
  /-- `Rdest` of `mulo` after its `break` (R178) -/
  | muloScratch
  deriving DecidableEq, Repr

/-- What the host function of `SYSCALL_MODE = host_service` is applied to: `x[2]`, the registers and memory (R401).
Which registers these are is left open; they are taken to be every register the spec names, of coprocessor 0 and 1 and
`pc` too (DESIGN CHOICE, notes/assumptions 22). -/
structure HostView where
  service : Word
  pc : Word
  gpr : Vector Word 32
  hi : Word
  lo : Word
  fpr : Vector Word 32
  cc1 : Bool
  status : Word
  excCode : BitVec 4
  bd : Bool
  intLines : BitVec 5
  epc : Word
  badVAddr : Word
  mem : List Host.Cell
  deriving DecidableEq, Repr

/-- What the host function returns when it does not end the run: new contents of the general registers, `hi`, `lo`
and the floating point registers, and the bytes of memory it writes (R401). That `cc[1]` and the registers of
coprocessor 0 are not among what it returns is the model's choice (DESIGN CHOICE, notes/assumptions 22). -/
structure HostReply where
  gpr : Vector Word 32
  hi : Word
  lo : Word
  fpr : Vector Word 32
  writes : List (Word × Byte)
  deriving DecidableEq, Repr

/-- "any value": draw number `n`, for the use named. -/
opaque Config.freeWord : Nat → FreeUse → Word

/-- The byte that memory holds at an address to which nothing has been written (R50: unspecified). -/
opaque Config.initialByte : Nat → Byte

/-- `HostService` of R401; `none` ends the run. -/
opaque Config.hostService : HostView → Option HostReply

/-- `fp_add_s`, `fp_sub_s`, `fp_mul_s`, `fp_div_s` when `FpNumerics` is not the suggested instance. -/
opaque Config.fpBinS : FpBin → Word → Word → Word

/-- `fp_add_d`, `fp_sub_d`, `fp_mul_d`, `fp_div_d` when `FpNumerics` is not the suggested instance. -/
opaque Config.fpBinD : FpBin → DWord → DWord → DWord

/-- `fp_abs_s`, `fp_neg_s` when `FpNumerics` is not the suggested instance. -/
opaque Config.fpUnS : FpUn → Word → Word

/-- `fp_abs_d`, `fp_neg_d` when `FpNumerics` is not the suggested instance. -/
opaque Config.fpUnD : FpUn → DWord → DWord

/-- `fp_eq_s`, `fp_lt_s`, `fp_le_s` when `FpNumerics` is not the suggested instance. -/
opaque Config.fpCmpS : FpCmp → Word → Word → Bool

/-- `fp_eq_d`, `fp_lt_d`, `fp_le_d` when `FpNumerics` is not the suggested instance. -/
opaque Config.fpCmpD : FpCmp → DWord → DWord → Bool

/-- `fp_cvt_d_s` when `FpNumerics` is not the suggested instance. -/
opaque Config.fpCvtDS : Word → DWord

/-- `fp_cvt_s_d` when `FpNumerics` is not the suggested instance. -/
opaque Config.fpCvtSD : DWord → Word

/-- `fp_cvt_d_w` when `FpNumerics` is not the suggested instance. -/
opaque Config.fpCvtDW : Word → DWord

/-- `fp_cvt_s_w` when `FpNumerics` is not the suggested instance. -/
opaque Config.fpCvtSW : Word → Word

/-- `fp_cvt_w_d` when `FpNumerics` is not the suggested instance. -/
opaque Config.fpCvtWD : DWord → Word

/-- `fp_cvt_w_s` when `FpNumerics` is not the suggested instance. -/
opaque Config.fpCvtWS : Word → Word

/-- The bits an IEEE 754 single operation offers for a not-a-number result (the payload is left open). -/
opaque Config.nanS : FpBin → Word → Word → Word

/-- The bits an IEEE 754 double operation offers for a not-a-number result. -/
opaque Config.nanD : FpBin → DWord → DWord → DWord

/-- The bits the narrowing conversion offers for a not-a-number result. -/
opaque Config.nanSD : DWord → Word

/-- The bits the widening conversion offers for a not-a-number result. -/
opaque Config.nanDS : Word → DWord

/-- Which neighbouring integer `cvt.w.s` takes for a value with a fraction: true for the greater (R367). -/
opaque Config.roundUpS : Word → Bool

/-- Which neighbouring integer `cvt.w.d` takes for a value with a fraction: true for the greater (R367). -/
opaque Config.roundUpD : DWord → Bool

end Sys2Proof
end

