-- ==== Sys2Proof/Machine/State.lean ====
section
/-! DEFINITION. The state of the machine as plain data, the reasons a step can stop, and the state after
reset (10_state.md, 70_reset_and_hazards.md).

Which register each field is, its width, its rule and its reset value stand in INVENTORY.md under State. -/

namespace Sys2Proof.Machine

/-- Why the machine stops. -/
inductive Fault where
  /-- raised by `syscall` when `SYSCALL_MODE` is `host_service` and the host function ends the run (R401,
  R445); safe: the run is over -/
  | hostEndedRun
  deriving DecidableEq, Repr

/-- Why a step has no meaning (`refuse` of R10); every one is safe. -/
inductive Refusal where
  /-- an arm of exec that has no meaning yet; raised by no instruction of this model; safe -/
  | notModelled (mnemonic : String)
  /-- a computational floating point instruction that names an odd register (R41, R350, U12); safe -/
  | oddFpRegister
  /-- an instruction of coprocessor 2 or 3, which no text describes (R42, U11); safe -/
  | coprocessorAbsent
  /-- `bc0t`, `bc0f`: no text says what drives the condition flag of coprocessor 0 (R34, U11); safe -/
  | conditionFlagUndriven
  /-- an access to a coprocessor-0 register other than 8, 12, 13, 14 (R35, U9); safe -/
  | cp0RegisterNotDescribed
  /-- a software write of `BadVAddr`, `Cause` or `EPC` (R38, R40, U8); safe -/
  | cp0RegisterReadOnly
  /-- a write of 1 to a bit of `Status` that no text describes (R36, U6); safe -/
  | statusBitNotDescribed
  /-- a branch or jump in a branch delay slot (R471 c, U23); safe -/
  | branchInDelaySlot
  /-- a fetched word with nonzero bits where its format wants zero (R113 b, U15); safe -/
  | mustBeZeroBits
  /-- a fetched word of an R2000 instruction that the spec does not list (R113 a, U30); safe -/
  | unlistedInstruction
  /-- a fetch of a byte stored since reset when `FETCH_SEES_STORES` is false (R82, U22); safe -/
  | fetchOfStoredByte
  /-- a pseudoinstruction used outside the restrictions of its expansion (R121, U18); safe -/
  | pseudoOutsideRestrictions
  deriving DecidableEq, Repr

/-- A load still in its delay (R44 c, R472). -/
inductive LoadPending where
  /-- a load into general register `r`; `partialWord` for `lwl` and `lwr`, which may follow each other -/
  | gpr (r : RegIdx) (partialWord : Bool)
  /-- `lwc1` or `mtc1` into floating point register `r` -/
  | fpr (r : RegIdx)
  deriving DecidableEq, Repr

/-- The machine's state (R20 to R45), with the parameters of the run and the environment's input. -/
structure State where
  /-- the parameters of R7; no step changes them (R45) -/
  params : Params
  /-- address of the instruction being executed (R30) -/
  pc : Word
  /-- general registers `x[0]` to `x[31]` (R20); slot 0 is never written and never read (R21) -/
  gpr : Vector Word 32
  /-- upper word of a product, remainder of a division (R26) -/
  hi : Word
  /-- lower word of a product, quotient of a division (R26) -/
  lo : Word
  /-- floating point registers `f[0]` to `f[31]` (R41) -/
  fpr : Vector Word 32
  /-- the floating point condition flag `cc[1]` (R34) -/
  cc1 : Bool
  /-- `Status`, `c0[12]` (R36) -/
  status : Word
  /-- `Cause.ExcCode`, bits 5:2 of `c0[13]` (R38, R39) -/
  excCode : BitVec 4
  /-- `Cause.BD`, bit 31 of `c0[13]` (R38) -/
  bd : Bool
  /-- `Cause.IP`, bit L for level L: the request lines as sampled by the latest step (R38, R430) -/
  intLines : BitVec 5
  /-- `EPC`, `c0[14]` (R40) -/
  epc : Word
  /-- `BadVAddr`, `c0[8]` (R40) -/
  badVAddr : Word
  /-- memory: the bytes placed or written so far, by rising address (R43) -/
  mem : List Host.Cell
  /-- the pending branch target, between a branch and the end of its delay slot (R44 b, R471) -/
  pendingTarget : Option Word
  /-- the load still in its delay (R44 c, R472) -/
  loadPending : Option LoadPending
  /-- addresses stored to since reset, rising; kept only when `FETCH_SEES_STORES` is false (R82) -/
  storedBytes : List Nat
  /-- the environment's `IntInput` for the coming steps, one entry a step; no request after its end (R430) -/
  intSchedule : List (BitVec 5)
  /-- the model's own: the number of the next draw of a free value -/
  freeCount : Nat
  deriving DecidableEq, Repr

/-- The machine right after reset (R50, R460): kernel mode, interrupts disabled, `pc` at `RESET_PC`, nothing
pending. The registers that R50 leaves unspecified hold 0 (DESIGN CHOICE, notes/assumptions 7); the parameters
are those of `Params.initial` (notes/assumptions 1 to 6). -/
def State.reset : State where
  params := Params.initial
  pc := Params.initial.resetPc
  gpr := Vector.replicate 32 0#32
  hi := 0#32
  lo := 0#32
  fpr := Vector.replicate 32 0#32
  cc1 := false
  status := 0#32
  excCode := 0#4
  bd := false
  intLines := 0#5
  epc := 0#32
  badVAddr := 0#32
  mem := []
  pendingTarget := none
  loadPending := none
  storedBytes := []
  intSchedule := []
  freeCount := 0

end Sys2Proof.Machine
end

