-- ==== Sys2Proof/Machine/Memory.lean ====
section
/-! DEFINITION. Memory as data: the bytes written so far, in one canonical form (20_memory.md R43, R60, R64).

An address that is not listed holds no written byte; the load operations of Ops.lean read there the free
byte `Config.initialByte` (R50: unspecified, R73: the same at every read). -/

namespace Sys2Proof.Machine

/-- The byte written at an address, if any. -/
def Memory.find : List Host.Cell → Nat → Option Byte
  | [], _ => none
  | (k, b) :: rest, a => if k = a then some b else Memory.find rest a

/-- Memory with one byte written, in its place by address. -/
def Memory.put : List Host.Cell → Nat → Byte → List Host.Cell
  | [], a, b => [(a, b)]
  | (k, c) :: rest, a, b =>
    if a < k then (a, b) :: (k, c) :: rest
    else if a = k then (a, b) :: rest
    else (k, c) :: Memory.put rest a b

/-- Whether every listed address is at least `lo` and below 2^32, and the addresses rise strictly. -/
def Memory.risingFrom : Nat → List Host.Cell → Bool
  | _, [] => true
  | lo, (k, _) :: rest => decide (lo ≤ k) && decide (k < 2 ^ 32) && Memory.risingFrom (k + 1) rest

/-- The canonical form: addresses strictly rising and below 2^32. An unlisted address holds no byte, so no
entry can equal what an unlisted address holds. -/
def Memory.wf (m : List Host.Cell) : Bool := Memory.risingFrom 0 m

/-- The byte that memory holds: what was written, or the unspecified initial byte (R50, R79). -/
def Memory.byteAt (m : List Host.Cell) (a : Nat) : Byte :=
  match Memory.find m a with
  | some b => b
  | none => Config.initialByte a

/-- A set of addresses as a rising list, with one address added. -/
def Memory.insertAddress : List Nat → Nat → List Nat
  | [], a => [a]
  | k :: rest, a =>
    if a < k then a :: k :: rest
    else if a = k then k :: rest
    else k :: Memory.insertAddress rest a

end Sys2Proof.Machine
end

