-- ==== Sys2Proof/Machine/Ops.lean ====
section
/-! DEFINITION. The named operations that every meaning is written over: registers, sequencing, branches,
data accesses, taking an exception and returning from one, and the registers of coprocessor 0. -/

namespace Sys2Proof.Machine

/-! Exceptions and effects. -/

/-- The nine exceptions (R39, R410). -/
inductive Exc where
  | int | addrl | addrs | ibus | dbus | syscall | bkpt | ri | ovf
  deriving DecidableEq, Repr

/-- The number that `Cause.ExcCode` holds for an exception (R39). -/
def Exc.code : Exc → BitVec 4
  | .int => 0#4
  | .addrl => 4#4
  | .addrs => 5#4
  | .ibus => 6#4
  | .dbus => 7#4
  | .syscall => 8#4
  | .bkpt => 9#4
  | .ri => 10#4
  | .ovf => 12#4

/-- Whether trap entry writes `BadVAddr` (R425 step 3). -/
def Exc.recordsAddress : Exc → Bool
  | .addrl | .addrs => true
  | .int | .ibus | .dbus | .syscall | .bkpt | .ri | .ovf => false

/-- How an instruction ends. -/
inductive Effect where
  /-- it has completed -/
  | done (s : State)
  /-- it has taken an exception: trap entry has been performed (R425) -/
  | trap (s : State)
  /-- the machine stops -/
  | stop (r : Fault)
  /-- the spec gives it no meaning here -/
  | refuse (r : Refusal)
  deriving DecidableEq, Repr

/-- An effect as the outcome of a step: completing and trapping both give a next state. -/
def Effect.outcome : Effect → Host.Outcome State Fault Refusal
  | .done s => .next s
  | .trap s => .next s
  | .stop r => .fault r
  | .refuse r => .refused r

/-! Open values. -/

/-- The free value of this step for a use (`any value` of R10). -/
def State.draw (s : State) (u : FreeUse) : Word := Config.freeWord s.freeCount u

/-! General registers, hi and lo. -/

/-- One register of a file of 32. -/
def readSlot (v : Vector Word 32) (r : RegIdx) : Word := v[r.toNat]'r.isLt

/-- A file of 32 registers with one register written. -/
def writeSlot (v : Vector Word 32) (r : RegIdx) (w : Word) : Vector Word 32 := v.set r.toNat w r.isLt

/-- Whether general register `r` is still in the delay of a load (R472). -/
def State.gprDelayed (s : State) (r : RegIdx) : Bool :=
  s.params.loadDelaySlot &&
    match s.loadPending with
    | some (.gpr q _) => q == r
    | _ => false

/-- Whether floating point register `r` is still in the delay of a load (R472). -/
def State.fprDelayed (s : State) (r : RegIdx) : Bool :=
  s.params.loadDelaySlot &&
    match s.loadPending with
    | some (.fpr q) => q == r
    | _ => false

/-- `x[r]` as an instruction reads it: register 0 is 0 (R21), a register in its load's delay is any value
(R472). -/
def State.x (s : State) (r : RegIdx) : Word :=
  if r = 0#5 then 0#32
  else if s.gprDelayed r then s.draw (.delayedGpr r)
  else readSlot s.gpr r

/-- `x[r]` as `lwl` and `lwr` read their destination: the bytes of a preceding `lwl` or `lwr` of the same
register are there already (R472). -/
def State.xMerged (s : State) (r : RegIdx) : Word :=
  match s.loadPending with
  | some (.gpr _ true) => if r = 0#5 then 0#32 else readSlot s.gpr r
  | _ => s.x r

/-- `x[r] <- v`; a write to register 0 is discarded (R21). -/
def State.setX (s : State) (r : RegIdx) (v : Word) : State :=
  if r = 0#5 then s else { s with gpr := writeSlot s.gpr r v }

/-- `hi <- h`, `lo <- l` (R26). -/
def State.setHiLo (s : State) (h l : Word) : State := { s with hi := h, lo := l }

/-! Floating point registers. -/

/-- `f[r]` as an instruction reads it (R41, R472). -/
def State.f (s : State) (r : RegIdx) : Word :=
  if s.fprDelayed r then s.draw (.delayedFpr r) else readSlot s.fpr r

/-- `fd(r) = f[r+1] : f[r]` for even `r` (R41). -/
def State.fd (s : State) (r : RegIdx) : DWord := s.f (r + 1#5) ++ s.f r

/-- `f[r] <- v` (R41). -/
def State.setF (s : State) (r : RegIdx) (v : Word) : State := { s with fpr := writeSlot s.fpr r v }

/-- `fd(r) <- v` for even `r` (R41). -/
def State.setFd (s : State) (r : RegIdx) (v : DWord) : State :=
  { s with
    fpr := writeSlot (writeSlot s.fpr r (v.extractLsb' 0 32)) (r + 1#5) (v.extractLsb' 32 32) }

/-- `cc[1] <- c` (R34). -/
def State.setCc1 (s : State) (c : Bool) : State := { s with cc1 := c }

/-! Sequencing. -/

/-- The branch target that waits for the current instruction to complete, where there are delay slots
(R471). -/
def State.slotTarget (s : State) : Option Word :=
  if s.params.branchDelaySlot then s.pendingTarget else none

/-- Whether the current instruction is in a branch delay slot (R471). -/
def State.inDelaySlot (s : State) : Bool := s.slotTarget.isSome

/-- Where control goes after an instruction that assigns no `pc` (R31, R471 b). -/
def State.nextPc (s : State) : Word :=
  match s.slotTarget with
  | some t => t
  | none => s.pc + 4#32

/-- The instruction has completed, leaving a load in its delay or none (R31, R471 b, R472). -/
def State.retireWith (s : State) (pending : Option LoadPending) : State :=
  { s with
    pc := s.nextPc
    pendingTarget := none
    loadPending := pending
    freeCount := s.freeCount + 1 }

/-- The instruction has completed (R31). -/
def State.retire (s : State) : State := s.retireWith none

/-- A load has completed; its register is in its delay where there are load delay slots (R472). -/
def State.retireLoad (s : State) (pending : LoadPending) : State :=
  s.retireWith (if s.params.loadDelaySlot then some pending else none)

/-- The link value: the address of the next instruction (R260, R471 a). -/
def State.linkValue (s : State) : Word :=
  if s.params.branchDelaySlot then s.pc + 8#32 else s.pc + 4#32

/-- A branch or jump to `target` if `taken` (R231, R471 a, c). -/
def State.branch (s : State) (taken : Bool) (target : Word) : Effect :=
  if s.inDelaySlot then .refuse .branchInDelaySlot
  else if s.params.branchDelaySlot then
    .done { s with
      pc := s.pc + 4#32
      pendingTarget := some (if taken then target else s.pc + 8#32)
      loadPending := none
      freeCount := s.freeCount + 1 }
  else
    .done { s with
      pc := if taken then target else s.pc + 4#32
      pendingTarget := none
      loadPending := none
      freeCount := s.freeCount + 1 }

/-! Modes, taking an exception and returning from one. -/

/-- User mode: `Status.KUc`, bit 1 (R37). -/
def State.userMode (s : State) : Bool := s.status.getLsbD 1

/-- The push of the three-level stack: `Status[5:0] <- Status[3:0] : 00` (R425 step 4). -/
def pushStatus (status : Word) : Word :=
  status.extractLsb' 6 26 ++ status.extractLsb' 0 4 ++ 0b00#2

/-- The pop of the three-level stack: `Status[3:0] <- Status[5:2]` (R400). -/
def popStatus (status : Word) : Word :=
  status.extractLsb' 4 28 ++ status.extractLsb' 2 4

/-- Trap entry for an exception of the instruction at `pc`, recording `info` where the exception records an
address (R425). In a delay slot `EPC` is the branch and `Cause.BD` is 1 (R471 d). -/
def State.trapEntry (s : State) (e : Exc) (info : Word) : State :=
  { s with
    epc := if s.inDelaySlot then s.pc - 4#32 else s.pc
    excCode := e.code
    bd := s.inDelaySlot
    badVAddr := if e.recordsAddress then info else s.badVAddr
    status := pushStatus s.status
    pc := s.params.excVector
    pendingTarget := none
    freeCount := s.freeCount + 1 }

/-- `raise E(info)`: the instruction has no effect but trap entry (R10, R426). -/
def State.raise (s : State) (e : Exc) (info : Word) : Effect := .trap (s.trapEntry e info)

/-- The return from an exception, `rfe`: it pops the stack and does not jump (R400, R428). -/
def State.popException (s : State) : State := { s with status := popStatus s.status }

/-! Memory as the processor sees it. -/

/-- Whether memory responds at an address (R60, R76). -/
def State.mapped (s : State) (a : Word) : Bool :=
  s.params.memMap.any fun g => decide (g.base ≤ a.toNat) && decide (a.toNat < g.base + g.size)

/-- Whether `ENFORCE_KUSEG` keeps the current mode from an address (R77). -/
def State.kusegDenies (s : State) (a : Word) : Bool :=
  s.params.enforceKuseg && s.userMode && a.getLsbD 31

/-- `MemByte(a)` (R64). -/
def State.byte (s : State) (a : Word) : Byte := Memory.byteAt s.mem a.toNat

/-- `MemRead(a, 2)` (R65). -/
def State.half (s : State) (a : Word) : Half :=
  if s.params.bigEndian then s.byte a ++ s.byte (a + 1#32) else s.byte (a + 1#32) ++ s.byte a

/-- `MemRead(a, 4)` (R65). -/
def State.word (s : State) (a : Word) : Word :=
  wordOfBytes s.params.bigEndian (s.byte a) (s.byte (a + 1#32)) (s.byte (a + 2#32)) (s.byte (a + 3#32))

/-- The bytes that `MemWrite(a, 2, v)` stores (R66). -/
def halfBytes (big : Bool) (a : Word) (v : Half) : List (Word × Byte) :=
  if big then [(a, v.extractLsb' 8 8), (a + 1#32, v.extractLsb' 0 8)]
  else [(a, v.extractLsb' 0 8), (a + 1#32, v.extractLsb' 8 8)]

/-- The bytes that `MemWrite(a, 4, v)` stores (R66). -/
def wordBytes (big : Bool) (a : Word) (v : Word) : List (Word × Byte) :=
  [a, a + 1#32, a + 2#32, a + 3#32].zip (bytesOfWord big v)

/-- Memory with some bytes written, in their order. -/
def Memory.putAll : List Host.Cell → List (Word × Byte) → List Host.Cell
  | m, [] => m
  | m, (a, b) :: rest => Memory.putAll (Memory.put m a.toNat b) rest

/-- The addresses stored to, with those of some bytes added. -/
def Memory.insertAll : List Nat → List (Word × Byte) → List Nat
  | l, [] => l
  | l, (a, _) :: rest => Memory.insertAll (Memory.insertAddress l a.toNat) rest

/-- The bytes are stored; no other byte of memory changes (R66). The addresses are remembered where a later
fetch of them is refused (R82). -/
def State.storeAll (s : State) (bytes : List (Word × Byte)) : State :=
  { s with
    mem := Memory.putAll s.mem bytes
    storedBytes :=
      if s.params.fetchSeesStores then s.storedBytes else Memory.insertAll s.storedBytes bytes }

/-- The address is a multiple of 2 (R61). -/
def aligned2 (a : Word) : Bool := !a.getLsbD 0

/-- The address is a multiple of 4 (R61). -/
def aligned4 (a : Word) : Bool := a.extractLsb' 0 2 == 0#2

/-- The aligned word that contains an address. -/
def alignedWord (a : Word) : Word := a.extractLsb' 2 30 ++ 0#2

/-- The four addresses from `a` on. -/
def wordSpan (a : Word) : List Word := [a, a + 1#32, a + 2#32, a + 3#32]

/-- The exception of a data access at `a` that touches `span`, if any: alignment, then `ENFORCE_KUSEG`, then
`MemMap` (R280, R310, R421). -/
def State.dataFault (s : State) (addressError : Exc) (a : Word) (aligned : Bool) (span : List Word) :
    Option Exc :=
  if !aligned then some addressError
  else if s.kusegDenies a then some addressError
  else if span.all s.mapped then none
  else some .dbus

/-- A load at `a` that continues as `k` once its checks have passed (R280). -/
def State.loadAt (s : State) (a : Word) (aligned : Bool) (span : List Word) (k : Effect) : Effect :=
  match s.dataFault .addrl a aligned span with
  | some e => s.raise e a
  | none => k

/-- A word access at `a` that continues as `k` once its alignment has been checked (R68). -/
def State.ifAligned (s : State) (addressError : Exc) (a : Word) (k : Effect) : Effect :=
  if aligned4 a then k else s.raise addressError a

/-- A store at `a` of some bytes once its checks have passed (R310). -/
def State.storeAt (s : State) (a : Word) (aligned : Bool) (span : List Word)
    (bytes : List (Word × Byte)) : Effect :=
  match s.dataFault .addrs a aligned span with
  | some e => s.raise e a
  | none => .done (s.storeAll bytes).retire

/-! The registers of coprocessor 0. -/

/-- The bit of interrupt level `l` in `Status` and `Cause` (R36, R38). -/
def intBitMask (p : Params) (l : Fin 5) : Word := 1#32 <<< p.intBit[l]

/-- A bit for each of five levels, at the places of `IntBit`. -/
def spreadLevels (p : Params) (levels : BitVec 5) : Word :=
  (if levels.getLsbD 0 then intBitMask p 0 else 0#32) |||
  (if levels.getLsbD 1 then intBitMask p 1 else 0#32) |||
  (if levels.getLsbD 2 then intBitMask p 2 else 0#32) |||
  (if levels.getLsbD 3 then intBitMask p 3 else 0#32) |||
  (if levels.getLsbD 4 then intBitMask p 4 else 0#32)

/-- The bits of `Status` that the spec describes: the stack and the five mask bits (R36). -/
def statusDescribed (p : Params) : Word := 0x3f#32 ||| spreadLevels p 0b11111#5

/-- The bits of `Cause` that the spec describes: `ExcCode`, `BD` and the five pending bits (R38). -/
def causeDescribed (p : Params) : Word := 0x8000003c#32 ||| spreadLevels p 0b11111#5

/-- The described bits of `Cause` (R38). -/
def State.causeBits (s : State) : Word :=
  (if s.bd then 0x80000000#32 else 0#32) ||| (s.excCode.setWidth 32 <<< 2) |||
    spreadLevels s.params s.intLines

/-- `Status` as a read delivers it: any value in the bits no text describes (R36). -/
def State.statusRead (s : State) : Word :=
  (s.status &&& statusDescribed s.params) ||| (s.draw .statusBits &&& ~~~statusDescribed s.params)

/-- `Cause` as a read delivers it: any value in the bits no text describes (R38). -/
def State.causeRead (s : State) : Word :=
  (s.causeBits &&& causeDescribed s.params) ||| (s.draw .causeBits &&& ~~~causeDescribed s.params)

/-- The value of `c0[n]`, for the four registers the spec describes (R35, R335). -/
def State.cp0Read (s : State) (n : RegIdx) : Option Word :=
  if n = 8#5 then some s.badVAddr
  else if n = 12#5 then some s.statusRead
  else if n = 13#5 then some s.causeRead
  else if n = 14#5 then some s.epc
  else none

/-- Why a write of `c0[n]` is refused whatever the value, if it is (R337). -/
def cp0WriteRefusal (n : RegIdx) : Option Refusal :=
  if n = 12#5 then none
  else if n = 8#5 ∨ n = 13#5 ∨ n = 14#5 then some .cp0RegisterReadOnly
  else some .cp0RegisterNotDescribed

/-- `Status <- v`, refused where `v` has a 1 in a bit that no text describes; a 0 there has no effect (R36,
R337). -/
def State.writeStatus (s : State) (v : Word) : Effect :=
  if v &&& ~~~statusDescribed s.params = 0#32 then
    .done { s with status := v ||| (s.status &&& ~~~statusDescribed s.params) }.retire
  else .refuse .statusBitNotDescribed

/-- An instruction that only kernel mode may execute; in user mode it takes the reserved instruction
exception, the mapping that R437 permits (DESIGN CHOICE, notes/assumptions 12). -/
def State.privileged (s : State) (k : Effect) : Effect :=
  if s.userMode then s.raise .ri 0#32 else k

end Sys2Proof.Machine
end

