-- ==== Sys2Proof/Machine/Flags.lean ====
section
/-! DEFINITION. The conditions that the instructions compute: signed overflow, comparison results and branch
conditions. The CPU has no condition-code register (R33); the only flag is `cc[1]` (R34), which the floating
point comparisons write and `bc1t`, `bc1f` read. -/

namespace Sys2Proof.Machine

/-- A signed result that fits 32 bits; none is an overflow (R141). -/
def fitsSigned (t : Int) : Option Word :=
  if -2147483648 ≤ t ∧ t ≤ 2147483647 then some (BitVec.ofInt 32 t) else none

/-- `s(a) + s(b)`, exact; none on overflow (R143). -/
def addSigned (a b : Word) : Option Word := fitsSigned (a.toInt + b.toInt)

/-- `s(a) - s(b)`, exact; none on overflow (R174). -/
def subSigned (a b : Word) : Option Word := fitsSigned (a.toInt - b.toInt)

/-- A comparison result as a register holds it (R214). -/
def boolWord (c : Bool) : Word := if c then 1#32 else 0#32

/-- `s(a) < s(b)` (R209). -/
def lessSigned (a b : Word) : Bool := decide (a.toInt < b.toInt)

/-- `u(a) < u(b)` (R211). -/
def lessUnsigned (a b : Word) : Bool := decide (a.toNat < b.toNat)

/-- `s(a) < 0` (R251). -/
def isNegative (a : Word) : Bool := decide (a.toInt < 0)

/-- `s(a) > 0` (R244). -/
def isPositive (a : Word) : Bool := decide (0 < a.toInt)

/-- A register written with a result that may overflow: on overflow `raise OVF`, the destination unchanged
(R141, R416). -/
def State.writeChecked (s : State) (rd : RegIdx) (t : Option Word) : Effect :=
  match t with
  | some v => .done (s.setX rd v).retire
  | none => s.raise .ovf 0#32

/-- A register written with a result (R140). -/
def State.write (s : State) (rd : RegIdx) (v : Word) : Effect := .done (s.setX rd v).retire

end Sys2Proof.Machine
end

