-- ==== Sys2Proof/Machine/Operands.lean ====
section
/-! DEFINITION. The operand forms: immediates, effective addresses, branch and jump targets, shift
distances, and the bytes of the partial-word accesses (30_encoding.md R105 to R108, 43_load.md R290, R291). -/

namespace Sys2Proof.Machine

/-- `sext_16(imm16)` (R105). -/
def signImm (imm : Half) : Word := imm.signExtend 32

/-- `zext_16(imm16)` (R105). -/
def zeroImm (imm : Half) : Word := imm.setWidth 32

/-- `imm16 : 0x0000`, the operand of `lui` (R105, R201). -/
def upperImm (imm : Half) : Word := imm ++ 0#16

/-- The effective address `x[rs] + sext_16(imm16)` (R280, R310). -/
def State.ea (s : State) (imm : Half) (rs : RegIdx) : Word := s.x rs + signImm imm

/-- The branch target `BT = (pc + 4) + (sext_16(imm16) << 2)` (R106). -/
def branchTarget (pc : Word) (imm : Half) : Word := pc + 4#32 + (signImm imm <<< 2)

/-- The jump target `JT = (pc + 4)[31:28] : target26 : 00` (R107). -/
def jumpTarget (pc : Word) (target : BitVec 26) : Word :=
  (pc + 4#32).extractLsb' 28 4 ++ target ++ 0#2

/-- The distance of a variable shift: the low five bits of a register (R108). -/
def shiftDistance (v : Word) : Nat := (v.extractLsb' 0 5).toNat

/-- The address that `lwl` and `swl` pair with byte `k` of the register (byte 3 is bits 31:24), if any (R290,
R316). -/
def leftAddress (big : Bool) (a : Word) (k : Nat) : Option Word :=
  let b := (a.extractLsb' 0 2).toNat
  if big then
    if b ≤ k then some (a + BitVec.ofNat 32 (3 - k)) else none
  else
    if 3 ≤ k + b then some (a - BitVec.ofNat 32 (3 - k)) else none

/-- The address that `lwr` and `swr` pair with byte `k` of the register, if any (R291, R317). -/
def rightAddress (big : Bool) (a : Word) (k : Nat) : Option Word :=
  let b := (a.extractLsb' 0 2).toNat
  if big then
    if k ≤ b then some (a - BitVec.ofNat 32 k) else none
  else
    if k + b ≤ 3 then some (a + BitVec.ofNat 32 k) else none

/-- Byte `k` of a partial-word load: from memory where it is paired with an address, else the old byte. -/
def State.mergedByte (s : State) (address : Nat → Option Word) (old : Word) (k : Nat) : Byte :=
  match address k with
  | some p => s.byte p
  | none => old.extractLsb' (8 * k) 8

/-- The register after a partial-word load (R290, R291). -/
def State.merged (s : State) (address : Nat → Option Word) (old : Word) : Word :=
  s.mergedByte address old 3 ++ s.mergedByte address old 2 ++ s.mergedByte address old 1 ++
    s.mergedByte address old 0

/-- The bytes that a partial-word store writes: `swl` stores what `lwl` would load (R316, R317). -/
def partialBytes (address : Nat → Option Word) (v : Word) : List (Word × Byte) :=
  [3, 2, 1, 0].filterMap fun k => (address k).map fun p => (p, v.extractLsb' (8 * k) 8)

end Sys2Proof.Machine
end

