-- ==== Sys2Proof/Machine/ArithLogic.lean ====
section
/-! DEFINITION. The bare arithmetic and logical instructions (40_arith_logic.md).

Sources are read before the destination is written (R140); `mult`, `multu`, `div` and `divu` write `hi` and
`lo` in their own step (R474). -/

namespace Sys2Proof.Machine

/-- The signed product, upper word then lower word (R156). -/
def productSigned (a b : Word) : Word × Word :=
  let p := BitVec.ofInt 64 (a.toInt * b.toInt)
  (p.extractLsb' 32 32, p.extractLsb' 0 32)

/-- The unsigned product, upper word then lower word (R157). -/
def productUnsigned (a b : Word) : Word × Word :=
  let p := BitVec.ofNat 64 (a.toNat * b.toNat)
  (p.extractLsb' 32 32, p.extractLsb' 0 32)

/-- The remainder and the quotient of the signed division, in this order (R179). A zero divisor and MIN by -1
leave both any value (U3); under `open` a negative operand leaves the remainder any value and rounds the
quotient either way, as the low bit of the free value says (U1). -/
def quotientSigned (p : DivNumerics) (freeHi freeLo a b : Word) : Word × Word :=
  if b = 0#32 then (freeHi, freeLo)
  else if a = 0x80000000#32 ∧ b = 0xffffffff#32 then (freeHi, freeLo)
  else if a.toInt < 0 ∨ b.toInt < 0 then
    match p with
    | .trunc => (BitVec.ofInt 32 (a.toInt.tmod b.toInt), BitVec.ofInt 32 (a.toInt.tdiv b.toInt))
    | .unspecified =>
      (freeHi, BitVec.ofInt 32
        (if freeLo.getLsbD 0 then a.toInt.fdiv b.toInt else a.toInt.tdiv b.toInt))
  else (BitVec.ofNat 32 (a.toNat % b.toNat), BitVec.ofNat 32 (a.toNat / b.toNat))

/-- The remainder and the quotient of the unsigned division, in this order; a zero divisor leaves both any
value (R150, R179). -/
def quotientUnsigned (freeHi freeLo a b : Word) : Word × Word :=
  if b = 0#32 then (freeHi, freeLo)
  else (BitVec.ofNat 32 (a.toNat % b.toNat), BitVec.ofNat 32 (a.toNat / b.toNat))

/-- `hi` and `lo` written together (R26). -/
def State.writeHiLo (s : State) (r : Word × Word) : Effect := .done (s.setHiLo r.1 r.2).retire

/-- `x[rd] <- (x[rt] << shamt)[31:0]` (R168). -/
def opSll (rd : RegIdx) (rt : RegIdx) (shamt : BitVec 5) (s : State) : Effect :=
  s.write rd (s.x rt <<< shamt.toNat)

/-- The meaning of `sll` (R168). -/
def execSll (rd : RegIdx) (rt : RegIdx) (shamt : BitVec 5) (s : State) : Host.Outcome State Fault Refusal :=
  (opSll rd rt shamt s).outcome

/-- `x[rd] <- u(x[rt]) >> shamt` (R172). -/
def opSrl (rd : RegIdx) (rt : RegIdx) (shamt : BitVec 5) (s : State) : Effect :=
  s.write rd (s.x rt >>> shamt.toNat)

/-- The meaning of `srl` (R172). -/
def execSrl (rd : RegIdx) (rt : RegIdx) (shamt : BitVec 5) (s : State) : Host.Outcome State Fault Refusal :=
  (opSrl rd rt shamt s).outcome

/-- `x[rd] <- s(x[rt]) >> shamt`, sign-filling (R170). -/
def opSra (rd : RegIdx) (rt : RegIdx) (shamt : BitVec 5) (s : State) : Effect :=
  s.write rd ((s.x rt).sshiftRight shamt.toNat)

/-- The meaning of `sra` (R170). -/
def execSra (rd : RegIdx) (rt : RegIdx) (shamt : BitVec 5) (s : State) : Host.Outcome State Fault Refusal :=
  (opSra rd rt shamt s).outcome

/-- `x[rd] <- (x[rt] << x[rs][4:0])[31:0]` (R169). -/
def opSllv (rd : RegIdx) (rt : RegIdx) (rs : RegIdx) (s : State) : Effect :=
  s.write rd (s.x rt <<< shiftDistance (s.x rs))

/-- The meaning of `sllv` (R169). -/
def execSllv (rd : RegIdx) (rt : RegIdx) (rs : RegIdx) (s : State) : Host.Outcome State Fault Refusal :=
  (opSllv rd rt rs s).outcome

/-- `x[rd] <- u(x[rt]) >> x[rs][4:0]` (R173). -/
def opSrlv (rd : RegIdx) (rt : RegIdx) (rs : RegIdx) (s : State) : Effect :=
  s.write rd (s.x rt >>> shiftDistance (s.x rs))

/-- The meaning of `srlv` (R173). -/
def execSrlv (rd : RegIdx) (rt : RegIdx) (rs : RegIdx) (s : State) : Host.Outcome State Fault Refusal :=
  (opSrlv rd rt rs s).outcome

/-- `x[rd] <- s(x[rt]) >> x[rs][4:0]`, sign-filling (R171). -/
def opSrav (rd : RegIdx) (rt : RegIdx) (rs : RegIdx) (s : State) : Effect :=
  s.write rd ((s.x rt).sshiftRight (shiftDistance (s.x rs)))

/-- The meaning of `srav` (R171). -/
def execSrav (rd : RegIdx) (rt : RegIdx) (rs : RegIdx) (s : State) : Host.Outcome State Fault Refusal :=
  (opSrav rd rt rs s).outcome

/-- The exact signed sum; on overflow `raise OVF` (R143). -/
def opAdd (rd : RegIdx) (rs : RegIdx) (rt : RegIdx) (s : State) : Effect :=
  s.writeChecked rd (addSigned (s.x rs) (s.x rt))

/-- The meaning of `add` (R143). -/
def execAdd (rd : RegIdx) (rs : RegIdx) (rt : RegIdx) (s : State) : Host.Outcome State Fault Refusal :=
  (opAdd rd rs rt s).outcome

/-- The exact signed sum with `sext_16(imm16)`; on overflow `raise OVF` (R144). -/
def opAddi (rt : RegIdx) (rs : RegIdx) (imm : Half) (s : State) : Effect :=
  s.writeChecked rt (addSigned (s.x rs) (signImm imm))

/-- The meaning of `addi` (R144). -/
def execAddi (rt : RegIdx) (rs : RegIdx) (imm : Half) (s : State) : Host.Outcome State Fault Refusal :=
  (opAddi rt rs imm s).outcome

/-- `x[rd] <- (x[rs] + x[rt])[31:0]` (R145). -/
def opAddu (rd : RegIdx) (rs : RegIdx) (rt : RegIdx) (s : State) : Effect := s.write rd (s.x rs + s.x rt)

/-- The meaning of `addu` (R145). -/
def execAddu (rd : RegIdx) (rs : RegIdx) (rt : RegIdx) (s : State) : Host.Outcome State Fault Refusal :=
  (opAddu rd rs rt s).outcome

/-- `x[rt] <- (x[rs] + sext_16(imm16))[31:0]` (R146). -/
def opAddiu (rt : RegIdx) (rs : RegIdx) (imm : Half) (s : State) : Effect :=
  s.write rt (s.x rs + signImm imm)

/-- The meaning of `addiu` (R146). -/
def execAddiu (rt : RegIdx) (rs : RegIdx) (imm : Half) (s : State) : Host.Outcome State Fault Refusal :=
  (opAddiu rt rs imm s).outcome

/-- The exact signed difference; on overflow `raise OVF` (R174). -/
def opSub (rd : RegIdx) (rs : RegIdx) (rt : RegIdx) (s : State) : Effect :=
  s.writeChecked rd (subSigned (s.x rs) (s.x rt))

/-- The meaning of `sub` (R174). -/
def execSub (rd : RegIdx) (rs : RegIdx) (rt : RegIdx) (s : State) : Host.Outcome State Fault Refusal :=
  (opSub rd rs rt s).outcome

/-- `x[rd] <- (x[rs] - x[rt])[31:0]` (R175). -/
def opSubu (rd : RegIdx) (rs : RegIdx) (rt : RegIdx) (s : State) : Effect := s.write rd (s.x rs - s.x rt)

/-- The meaning of `subu` (R175). -/
def execSubu (rd : RegIdx) (rs : RegIdx) (rt : RegIdx) (s : State) : Host.Outcome State Fault Refusal :=
  (opSubu rd rs rt s).outcome

/-- `x[rd] <- x[rs] & x[rt]` (R147). -/
def opAnd (rd : RegIdx) (rs : RegIdx) (rt : RegIdx) (s : State) : Effect := s.write rd (s.x rs &&& s.x rt)

/-- The meaning of `and` (R147). -/
def execAnd (rd : RegIdx) (rs : RegIdx) (rt : RegIdx) (s : State) : Host.Outcome State Fault Refusal :=
  (opAnd rd rs rt s).outcome

/-- `x[rt] <- x[rs] & zext_16(imm16)` (R148). -/
def opAndi (rt : RegIdx) (rs : RegIdx) (imm : Half) (s : State) : Effect :=
  s.write rt (s.x rs &&& zeroImm imm)

/-- The meaning of `andi` (R148). -/
def execAndi (rt : RegIdx) (rs : RegIdx) (imm : Half) (s : State) : Host.Outcome State Fault Refusal :=
  (opAndi rt rs imm s).outcome

/-- `x[rd] <- x[rs] | x[rt]` (R162). -/
def opOr (rd : RegIdx) (rs : RegIdx) (rt : RegIdx) (s : State) : Effect := s.write rd (s.x rs ||| s.x rt)

/-- The meaning of `or` (R162). -/
def execOr (rd : RegIdx) (rs : RegIdx) (rt : RegIdx) (s : State) : Host.Outcome State Fault Refusal :=
  (opOr rd rs rt s).outcome

/-- `x[rt] <- x[rs] | zext_16(imm16)` (R163). -/
def opOri (rt : RegIdx) (rs : RegIdx) (imm : Half) (s : State) : Effect :=
  s.write rt (s.x rs ||| zeroImm imm)

/-- The meaning of `ori` (R163). -/
def execOri (rt : RegIdx) (rs : RegIdx) (imm : Half) (s : State) : Host.Outcome State Fault Refusal :=
  (opOri rt rs imm s).outcome

/-- `x[rd] <- x[rs] ^ x[rt]` (R176). -/
def opXor (rd : RegIdx) (rs : RegIdx) (rt : RegIdx) (s : State) : Effect := s.write rd (s.x rs ^^^ s.x rt)

/-- The meaning of `xor` (R176). -/
def execXor (rd : RegIdx) (rs : RegIdx) (rt : RegIdx) (s : State) : Host.Outcome State Fault Refusal :=
  (opXor rd rs rt s).outcome

/-- `x[rt] <- x[rs] ^ zext_16(imm16)` (R177). -/
def opXori (rt : RegIdx) (rs : RegIdx) (imm : Half) (s : State) : Effect :=
  s.write rt (s.x rs ^^^ zeroImm imm)

/-- The meaning of `xori` (R177). -/
def execXori (rt : RegIdx) (rs : RegIdx) (imm : Half) (s : State) : Host.Outcome State Fault Refusal :=
  (opXori rt rs imm s).outcome

/-- `x[rd] <- ~(x[rs] | x[rt])` (R160). -/
def opNor (rd : RegIdx) (rs : RegIdx) (rt : RegIdx) (s : State) : Effect :=
  s.write rd (~~~(s.x rs ||| s.x rt))

/-- The meaning of `nor` (R160). -/
def execNor (rd : RegIdx) (rs : RegIdx) (rt : RegIdx) (s : State) : Host.Outcome State Fault Refusal :=
  (opNor rd rs rt s).outcome

/-- The signed 64-bit product in `hi`, `lo` (R156). -/
def opMult (rs : RegIdx) (rt : RegIdx) (s : State) : Effect := s.writeHiLo (productSigned (s.x rs) (s.x rt))

/-- The meaning of `mult` (R156). -/
def execMult (rs : RegIdx) (rt : RegIdx) (s : State) : Host.Outcome State Fault Refusal :=
  (opMult rs rt s).outcome

/-- The unsigned 64-bit product in `hi`, `lo` (R157). -/
def opMultu (rs : RegIdx) (rt : RegIdx) (s : State) : Effect :=
  s.writeHiLo (productUnsigned (s.x rs) (s.x rt))

/-- The meaning of `multu` (R157). -/
def execMultu (rs : RegIdx) (rt : RegIdx) (s : State) : Host.Outcome State Fault Refusal :=
  (opMultu rs rt s).outcome

/-- The signed quotient in `lo` and remainder in `hi`; never raises (R149, R179). -/
def opDiv (rs : RegIdx) (rt : RegIdx) (s : State) : Effect :=
  s.writeHiLo (quotientSigned s.params.divNumerics (s.draw .remainder) (s.draw .quotient) (s.x rs) (s.x rt))

/-- The meaning of `div` (R149). -/
def execDiv (rs : RegIdx) (rt : RegIdx) (s : State) : Host.Outcome State Fault Refusal :=
  (opDiv rs rt s).outcome

/-- The unsigned quotient in `lo` and remainder in `hi`; never raises (R150, R179). -/
def opDivu (rs : RegIdx) (rt : RegIdx) (s : State) : Effect :=
  s.writeHiLo (quotientUnsigned (s.draw .remainder) (s.draw .quotient) (s.x rs) (s.x rt))

/-- The meaning of `divu` (R150). -/
def execDivu (rs : RegIdx) (rt : RegIdx) (s : State) : Host.Outcome State Fault Refusal :=
  (opDivu rs rt s).outcome

end Sys2Proof.Machine
end

