-- ==== Sys2Proof/Machine/BranchJump.lean ====
section
/-! DEFINITION. The bare branch and jump instructions (42_branch_jump.md).

Conditions and targets are taken from the state before the link is written (R260). A branch or jump in a
delay slot is refused (R471 c); none raises an exception by itself (R230). -/

namespace Sys2Proof.Machine

/-- Taken when `cc[1]` is 1 (R234). -/
def opBc1t (imm : Half) (s : State) : Effect := s.branch s.cc1 (branchTarget s.pc imm)

/-- The meaning of `bc1t` (R234). -/
def execBc1t (imm : Half) (s : State) : Host.Outcome State Fault Refusal :=
  (opBc1t imm s).outcome

/-- Taken when `cc[1]` is 0 (R235). -/
def opBc1f (imm : Half) (s : State) : Effect := s.branch (!s.cc1) (branchTarget s.pc imm)

/-- The meaning of `bc1f` (R235). -/
def execBc1f (imm : Half) (s : State) : Host.Outcome State Fault Refusal :=
  (opBc1f imm s).outcome

/-- Refused: nothing drives the condition flag of coprocessor 0 (R34, R234). -/
def opBc0t (_imm : Half) (_s : State) : Effect := .refuse .conditionFlagUndriven

/-- The meaning of `bc0t` (R234). -/
def execBc0t (imm : Half) (s : State) : Host.Outcome State Fault Refusal :=
  (opBc0t imm s).outcome

/-- Refused: nothing drives the condition flag of coprocessor 0 (R34, R235). -/
def opBc0f (_imm : Half) (_s : State) : Effect := .refuse .conditionFlagUndriven

/-- The meaning of `bc0f` (R235). -/
def execBc0f (imm : Half) (s : State) : Host.Outcome State Fault Refusal :=
  (opBc0f imm s).outcome

/-- Refused: coprocessor 2 is not described (R42, R234). -/
def opBc2t (_imm : Half) (_s : State) : Effect := .refuse .coprocessorAbsent

/-- The meaning of `bc2t` (R234). -/
def execBc2t (imm : Half) (s : State) : Host.Outcome State Fault Refusal :=
  (opBc2t imm s).outcome

/-- Refused: coprocessor 2 is not described (R42, R235). -/
def opBc2f (_imm : Half) (_s : State) : Effect := .refuse .coprocessorAbsent

/-- The meaning of `bc2f` (R235). -/
def execBc2f (imm : Half) (s : State) : Host.Outcome State Fault Refusal :=
  (opBc2f imm s).outcome

/-- Refused: coprocessor 3 is not described (R42, R234). -/
def opBc3t (_imm : Half) (_s : State) : Effect := .refuse .coprocessorAbsent

/-- The meaning of `bc3t` (R234). -/
def execBc3t (imm : Half) (s : State) : Host.Outcome State Fault Refusal :=
  (opBc3t imm s).outcome

/-- Refused: coprocessor 3 is not described (R42, R235). -/
def opBc3f (_imm : Half) (_s : State) : Effect := .refuse .coprocessorAbsent

/-- The meaning of `bc3f` (R235). -/
def execBc3f (imm : Half) (s : State) : Host.Outcome State Fault Refusal :=
  (opBc3f imm s).outcome

/-- Taken when `x[rs] = x[rt]` (R236). -/
def opBeq (rs : RegIdx) (rt : RegIdx) (imm : Half) (s : State) : Effect :=
  s.branch (s.x rs == s.x rt) (branchTarget s.pc imm)

/-- The meaning of `beq` (R236). -/
def execBeq (rs : RegIdx) (rt : RegIdx) (imm : Half) (s : State) : Host.Outcome State Fault Refusal :=
  (opBeq rs rt imm s).outcome

/-- Taken when `x[rs] != x[rt]` (R252). -/
def opBne (rs : RegIdx) (rt : RegIdx) (imm : Half) (s : State) : Effect :=
  s.branch (s.x rs != s.x rt) (branchTarget s.pc imm)

/-- The meaning of `bne` (R252). -/
def execBne (rs : RegIdx) (rt : RegIdx) (imm : Half) (s : State) : Host.Outcome State Fault Refusal :=
  (opBne rs rt imm s).outcome

/-- Taken when `s(x[rs]) >= 0` (R240). -/
def opBgez (rs : RegIdx) (imm : Half) (s : State) : Effect :=
  s.branch (!isNegative (s.x rs)) (branchTarget s.pc imm)

/-- The meaning of `bgez` (R240). -/
def execBgez (rs : RegIdx) (imm : Half) (s : State) : Host.Outcome State Fault Refusal :=
  (opBgez rs imm s).outcome

/-- Taken when `s(x[rs]) < 0` (R251). -/
def opBltz (rs : RegIdx) (imm : Half) (s : State) : Effect :=
  s.branch (isNegative (s.x rs)) (branchTarget s.pc imm)

/-- The meaning of `bltz` (R251). -/
def execBltz (rs : RegIdx) (imm : Half) (s : State) : Host.Outcome State Fault Refusal :=
  (opBltz rs imm s).outcome

/-- Taken when `s(x[rs]) > 0` (R244). -/
def opBgtz (rs : RegIdx) (imm : Half) (s : State) : Effect :=
  s.branch (isPositive (s.x rs)) (branchTarget s.pc imm)

/-- The meaning of `bgtz` (R244). -/
def execBgtz (rs : RegIdx) (imm : Half) (s : State) : Host.Outcome State Fault Refusal :=
  (opBgtz rs imm s).outcome

/-- Taken when `s(x[rs]) <= 0` (R247). -/
def opBlez (rs : RegIdx) (imm : Half) (s : State) : Effect :=
  s.branch (!isPositive (s.x rs)) (branchTarget s.pc imm)

/-- The meaning of `blez` (R247). -/
def execBlez (rs : RegIdx) (imm : Half) (s : State) : Host.Outcome State Fault Refusal :=
  (opBlez rs imm s).outcome

/-- As `bgez`; register 31 is written whether or not it is taken (R241). -/
def opBgezal (rs : RegIdx) (imm : Half) (s : State) : Effect :=
  (s.setX 31#5 s.linkValue).branch (!isNegative (s.x rs)) (branchTarget s.pc imm)

/-- The meaning of `bgezal` (R241). -/
def execBgezal (rs : RegIdx) (imm : Half) (s : State) : Host.Outcome State Fault Refusal :=
  (opBgezal rs imm s).outcome

/-- As `bltz`; register 31 is written whether or not it is taken (R248). -/
def opBltzal (rs : RegIdx) (imm : Half) (s : State) : Effect :=
  (s.setX 31#5 s.linkValue).branch (isNegative (s.x rs)) (branchTarget s.pc imm)

/-- The meaning of `bltzal` (R248). -/
def execBltzal (rs : RegIdx) (imm : Half) (s : State) : Host.Outcome State Fault Refusal :=
  (opBltzal rs imm s).outcome

/-- `pc <- JT` (R254). -/
def opJ (target : BitVec 26) (s : State) : Effect := s.branch true (jumpTarget s.pc target)

/-- The meaning of `j` (R254). -/
def execJ (target : BitVec 26) (s : State) : Host.Outcome State Fault Refusal :=
  (opJ target s).outcome

/-- `x[31]` is the link, `pc <- JT` (R255). -/
def opJal (target : BitVec 26) (s : State) : Effect :=
  (s.setX 31#5 s.linkValue).branch true (jumpTarget s.pc target)

/-- The meaning of `jal` (R255). -/
def execJal (target : BitVec 26) (s : State) : Host.Outcome State Fault Refusal :=
  (opJal target s).outcome

/-- `pc <- x[rs]` (R257). -/
def opJr (rs : RegIdx) (s : State) : Effect := s.branch true (s.x rs)

/-- The meaning of `jr` (R257). -/
def execJr (rs : RegIdx) (s : State) : Host.Outcome State Fault Refusal :=
  (opJr rs s).outcome

/-- `x[rd]` is the link, `pc` is the old `x[rs]` (R256, R260). -/
def opJalr (rd : RegIdx) (rs : RegIdx) (s : State) : Effect := (s.setX rd s.linkValue).branch true (s.x rs)

/-- The meaning of `jalr` (R256). -/
def execJalr (rd : RegIdx) (rs : RegIdx) (s : State) : Host.Outcome State Fault Refusal :=
  (opJalr rd rs s).outcome

end Sys2Proof.Machine
end

