-- ==== Sys2Proof/Machine/ConstCompare.lean ====
section
/-! DEFINITION. The bare constant and comparison instructions (41_const_compare.md). -/

namespace Sys2Proof.Machine

/-- `x[rt] <- imm16 : 0x0000` (R201). -/
def opLui (rt : RegIdx) (imm : Half) (s : State) : Effect := s.write rt (upperImm imm)

/-- The meaning of `lui` (R201). -/
def execLui (rt : RegIdx) (imm : Half) (s : State) : Host.Outcome State Fault Refusal :=
  (opLui rt imm s).outcome

/-- `x[rd] <- (s(x[rs]) < s(x[rt])) ? 1 : 0` (R209). -/
def opSlt (rd : RegIdx) (rs : RegIdx) (rt : RegIdx) (s : State) : Effect :=
  s.write rd (boolWord (lessSigned (s.x rs) (s.x rt)))

/-- The meaning of `slt` (R209). -/
def execSlt (rd : RegIdx) (rs : RegIdx) (rt : RegIdx) (s : State) : Host.Outcome State Fault Refusal :=
  (opSlt rd rs rt s).outcome

/-- `x[rt] <- (s(x[rs]) < s(sext_16(imm16))) ? 1 : 0` (R210). -/
def opSlti (rt : RegIdx) (rs : RegIdx) (imm : Half) (s : State) : Effect :=
  s.write rt (boolWord (lessSigned (s.x rs) (signImm imm)))

/-- The meaning of `slti` (R210). -/
def execSlti (rt : RegIdx) (rs : RegIdx) (imm : Half) (s : State) : Host.Outcome State Fault Refusal :=
  (opSlti rt rs imm s).outcome

/-- `x[rd] <- (u(x[rs]) < u(x[rt])) ? 1 : 0` (R211). -/
def opSltu (rd : RegIdx) (rs : RegIdx) (rt : RegIdx) (s : State) : Effect :=
  s.write rd (boolWord (lessUnsigned (s.x rs) (s.x rt)))

/-- The meaning of `sltu` (R211). -/
def execSltu (rd : RegIdx) (rs : RegIdx) (rt : RegIdx) (s : State) : Host.Outcome State Fault Refusal :=
  (opSltu rd rs rt s).outcome

/-- `x[rt] <- (u(x[rs]) < u(sext_16(imm16))) ? 1 : 0` (R212). -/
def opSltiu (rt : RegIdx) (rs : RegIdx) (imm : Half) (s : State) : Effect :=
  s.write rt (boolWord (lessUnsigned (s.x rs) (signImm imm)))

/-- The meaning of `sltiu` (R212). -/
def execSltiu (rt : RegIdx) (rs : RegIdx) (imm : Half) (s : State) : Host.Outcome State Fault Refusal :=
  (opSltiu rt rs imm s).outcome

end Sys2Proof.Machine
end

