-- ==== Sys2Proof/Machine/DataMove.lean ====
section
/-! DEFINITION. The bare data movement instructions (45_data_move.md). -/

namespace Sys2Proof.Machine

/-- A general register written by a move from a coprocessor, with the delay of a load (R335, R472). -/
def State.writeMoved (s : State) (rt : RegIdx) (v : Word) : Effect :=
  .done ((s.setX rt v).retireLoad (.gpr rt false))

/-- `x[rd] <- hi` (R331). -/
def opMfhi (rd : RegIdx) (s : State) : Effect := s.write rd s.hi

/-- The meaning of `mfhi` (R331). -/
def execMfhi (rd : RegIdx) (s : State) : Host.Outcome State Fault Refusal :=
  (opMfhi rd s).outcome

/-- `x[rd] <- lo` (R332). -/
def opMflo (rd : RegIdx) (s : State) : Effect := s.write rd s.lo

/-- The meaning of `mflo` (R332). -/
def execMflo (rd : RegIdx) (s : State) : Host.Outcome State Fault Refusal :=
  (opMflo rd s).outcome

/-- `hi <- x[rs]` (R333). -/
def opMthi (rs : RegIdx) (s : State) : Effect := .done (s.setHiLo (s.x rs) s.lo).retire

/-- The meaning of `mthi` (R333). -/
def execMthi (rs : RegIdx) (s : State) : Host.Outcome State Fault Refusal :=
  (opMthi rs s).outcome

/-- `lo <- x[rs]` (R334). -/
def opMtlo (rs : RegIdx) (s : State) : Effect := .done (s.setHiLo s.hi (s.x rs)).retire

/-- The meaning of `mtlo` (R334). -/
def execMtlo (rs : RegIdx) (s : State) : Host.Outcome State Fault Refusal :=
  (opMtlo rs s).outcome

/-- `x[rt] <- c0[rd]` for the four described registers, in kernel mode (R335). -/
def opMfc0 (rt : RegIdx) (rd : RegIdx) (s : State) : Effect :=
  s.privileged <|
    match s.cp0Read rd with
    | none => .refuse .cp0RegisterNotDescribed
    | some v => s.writeMoved rt v

/-- The meaning of `mfc0` (R335). -/
def execMfc0 (rt : RegIdx) (rd : RegIdx) (s : State) : Host.Outcome State Fault Refusal :=
  (opMfc0 rt rd s).outcome

/-- `x[rt] <- f[rd]`, any of the 32 registers (R335). -/
def opMfc1 (rt : RegIdx) (rd : RegIdx) (s : State) : Effect := s.writeMoved rt (s.f rd)

/-- The meaning of `mfc1` (R335). -/
def execMfc1 (rt : RegIdx) (rd : RegIdx) (s : State) : Host.Outcome State Fault Refusal :=
  (opMfc1 rt rd s).outcome

/-- Refused: coprocessor 2 is not described (R42, R335). -/
def opMfc2 (_rt : RegIdx) (_rd : RegIdx) (_s : State) : Effect := .refuse .coprocessorAbsent

/-- The meaning of `mfc2` (R335). -/
def execMfc2 (rt : RegIdx) (rd : RegIdx) (s : State) : Host.Outcome State Fault Refusal :=
  (opMfc2 rt rd s).outcome

/-- Refused: coprocessor 3 is not described (R42, R335). -/
def opMfc3 (_rt : RegIdx) (_rd : RegIdx) (_s : State) : Effect := .refuse .coprocessorAbsent

/-- The meaning of `mfc3` (R335). -/
def execMfc3 (rt : RegIdx) (rd : RegIdx) (s : State) : Host.Outcome State Fault Refusal :=
  (opMfc3 rt rd s).outcome

/-- `Status <- x[rt]`, in kernel mode; the other registers take no software write (R337). -/
def opMtc0 (rt : RegIdx) (rd : RegIdx) (s : State) : Effect :=
  s.privileged <|
    match cp0WriteRefusal rd with
    | some r => .refuse r
    | none => s.writeStatus (s.x rt)

/-- The meaning of `mtc0` (R337). -/
def execMtc0 (rt : RegIdx) (rd : RegIdx) (s : State) : Host.Outcome State Fault Refusal :=
  (opMtc0 rt rd s).outcome

/-- `f[rd] <- x[rt]`, any of the 32 registers (R337). -/
def opMtc1 (rt : RegIdx) (rd : RegIdx) (s : State) : Effect :=
  .done ((s.setF rd (s.x rt)).retireLoad (.fpr rd))

/-- The meaning of `mtc1` (R337). -/
def execMtc1 (rt : RegIdx) (rd : RegIdx) (s : State) : Host.Outcome State Fault Refusal :=
  (opMtc1 rt rd s).outcome

/-- Refused: coprocessor 2 is not described (R42, R337). -/
def opMtc2 (_rt : RegIdx) (_rd : RegIdx) (_s : State) : Effect := .refuse .coprocessorAbsent

/-- The meaning of `mtc2` (R337). -/
def execMtc2 (rt : RegIdx) (rd : RegIdx) (s : State) : Host.Outcome State Fault Refusal :=
  (opMtc2 rt rd s).outcome

/-- Refused: coprocessor 3 is not described (R42, R337). -/
def opMtc3 (_rt : RegIdx) (_rd : RegIdx) (_s : State) : Effect := .refuse .coprocessorAbsent

/-- The meaning of `mtc3` (R337). -/
def execMtc3 (rt : RegIdx) (rd : RegIdx) (s : State) : Host.Outcome State Fault Refusal :=
  (opMtc3 rt rd s).outcome

end Sys2Proof.Machine
end

