-- ==== Sys2Proof/Machine/ExcTrap.lean ====
section
/-! DEFINITION. The bare exception and trap instructions (47_exception_trap.md). -/

namespace Sys2Proof.Machine

/-- What the host function sees: `x[2]`, the registers and memory (R401), `pc`, the registers of coprocessor 0 and
`cc[1]` among them (DESIGN CHOICE, notes/assumptions 22). -/
def State.hostView (s : State) : HostView where
  service := s.x 2#5
  pc := s.pc
  gpr := s.gpr
  hi := s.hi
  lo := s.lo
  fpr := s.fpr
  cc1 := s.cc1
  status := s.status
  excCode := s.excCode
  bd := s.bd
  intLines := s.intLines
  epc := s.epc
  badVAddr := s.badVAddr
  mem := s.mem

/-- The state with the host function's register and memory contents; register 0 stays 0 (R21), and bytes
outside `MemMap` are no memory (R43). -/
def State.hostApply (s : State) (r : HostReply) : State :=
  ({ s with
      gpr := writeSlot r.gpr 0#5 (readSlot s.gpr 0#5)
      hi := r.hi
      lo := r.lo
      fpr := r.fpr }).storeAll (r.writes.filter fun w => s.mapped w.1)

/-- `SYSCALL_MODE = host_service`: the environment's function is applied, then `pc <- pc + 4`, or the run ends
(R401, R445). -/
def State.hostService (s : State) : Effect :=
  match Config.hostService s.hostView with
  | none => .stop .hostEndedRun
  | some r => .done (s.hostApply r).retire

/-- `Status[3:0] <- Status[5:2]`, in kernel mode; it does not jump (R400). -/
def opRfe (s : State) : Effect := s.privileged (.done s.popException.retire)

/-- The meaning of `rfe` (R400). -/
def execRfe (s : State) : Host.Outcome State Fault Refusal :=
  (opRfe s).outcome

/-- `raise SYSCALL`, or the host function (R401); the code field is ignored (R109). -/
def opSyscall (_code : BitVec 20) (s : State) : Effect :=
  match s.params.syscallMode with
  | .trap => s.raise .syscall 0#32
  | .hostService => s.hostService

/-- The meaning of `syscall` (R401). -/
def execSyscall (code : BitVec 20) (s : State) : Host.Outcome State Fault Refusal :=
  (opSyscall code s).outcome

/-- `raise BKPT`; the code field is written to no register (R402). -/
def opBrk (_code : BitVec 20) (s : State) : Effect := s.raise .bkpt 0#32

/-- The meaning of `break` (R402). -/
def execBrk (code : BitVec 20) (s : State) : Host.Outcome State Fault Refusal :=
  (opBrk code s).outcome

end Sys2Proof.Machine
end

