-- ==== Sys2Proof/Machine/FpNumerics.lean ====
section
/-! DEFINITION. Floating point numerics: the functions of R351, in the suggested instance (IEEE 754 binary32
and binary64, round to nearest even) or uninterpreted.

The arithmetic is exact on integers and narrowed once at the end. The payload and sign of a not-a-number
result are left open by the spec: they come from opaque constants (notes/assumptions 20). -/

namespace Sys2Proof.Machine

/-- A binary interchange format: fraction bits and exponent bits (R351). -/
structure FpFormat where
  fracBits : Nat
  expBits : Nat
  deriving DecidableEq, Repr

/-- binary32: 8-bit exponent, 23-bit fraction (R351). -/
def binary32 : FpFormat := ⟨23, 8⟩

/-- binary64: 11-bit exponent, 52-bit fraction (R351). -/
def binary64 : FpFormat := ⟨52, 11⟩

/-- What a bit pattern stands for. -/
inductive FpValue where
  | nan
  | inf (neg : Bool)
  /-- plus or minus `mant * 2^exp` -/
  | fin (neg : Bool) (mant : Nat) (exp : Int)
  deriving DecidableEq, Repr

/-- The exponent of the last place of a denormalised number. -/
def FpFormat.minExp (t : FpFormat) : Int := 2 - 2 ^ (t.expBits - 1) - t.fracBits

/-- The bits of a positive infinity: all exponent bits, no fraction bit. -/
def FpFormat.infBits (t : FpFormat) : Nat := (2 ^ t.expBits - 1) * 2 ^ t.fracBits

/-- The sign bit. -/
def FpFormat.signBit (t : FpFormat) : Nat := 2 ^ (t.fracBits + t.expBits)

/-- The value of a bit pattern. -/
def FpFormat.decode (t : FpFormat) (bits : Nat) : FpValue :=
  let neg := decide (t.signBit ≤ bits)
  let exp := bits / 2 ^ t.fracBits % 2 ^ t.expBits
  let frac := bits % 2 ^ t.fracBits
  if exp = 2 ^ t.expBits - 1 then
    if frac = 0 then .inf neg else .nan
  else if exp = 0 then .fin neg frac t.minExp
  else .fin neg (frac + 2 ^ t.fracBits) (t.minExp + (exp - 1 : Nat))

/-- A magnitude's bits with a sign. -/
def FpFormat.withSign (t : FpFormat) (neg : Bool) (bits : Nat) : Nat :=
  if neg then t.signBit + bits else bits

/-- `m / 2^k` rounded to the nearest integer, a tie to the even one. -/
def roundShift (m k : Nat) : Nat :=
  let q := m / 2 ^ k
  let r := m % 2 ^ k
  if 2 ^ k < 2 * r ∨ (2 ^ k = 2 * r ∧ q % 2 = 1) then q + 1 else q

/-- The bits of `m * 2^e` rounded to nearest even: denormalised below the smallest normal number, infinite
above the largest one (R351). -/
def FpFormat.roundBits (t : FpFormat) (m : Nat) (e : Int) : Nat :=
  if m = 0 then 0
  else
    let last := max t.minExp (e + Nat.log2 m - t.fracBits)
    let mant := if last ≤ e then m * 2 ^ (e - last).toNat else roundShift m (last - e).toNat
    min (t.infBits) ((last - t.minExp).toNat * 2 ^ t.fracBits + mant)

/-- The bits of plus or minus `m * 2^e` rounded. -/
def FpFormat.round (t : FpFormat) (neg : Bool) (m : Nat) (e : Int) : Nat :=
  t.withSign neg (t.roundBits m e)

/-- A bit pattern made a not-a-number: all exponent bits set, and a fraction bit if it has none. -/
def FpFormat.asNan (t : FpFormat) (bits : Nat) : Nat :=
  let b := bits ||| t.infBits
  if b % 2 ^ t.fracBits = 0 then b ||| 2 ^ (t.fracBits - 1) else b

/-- A signed magnitude as an integer, scaled from exponent `e` to the smaller exponent `least`. -/
def scaled (neg : Bool) (m : Nat) (e least : Int) : Int :=
  let v : Int := m * 2 ^ (e - least).toNat
  if neg then -v else v

/-- The sum of two values; none for a not-a-number. -/
def FpFormat.addValues (t : FpFormat) : FpValue → FpValue → Option Nat
  | .nan, _ => none
  | _, .nan => none
  | .inf n, .inf n' => if n = n' then some (t.withSign n t.infBits) else none
  | .inf n, .fin _ _ _ => some (t.withSign n t.infBits)
  | .fin _ _ _, .inf n => some (t.withSign n t.infBits)
  | .fin n m e, .fin n' m' e' =>
    let least := min e e'
    let sum := scaled n m e least + scaled n' m' e' least
    if sum = 0 then some (t.withSign (n && n') 0)
    else some (t.round (decide (sum < 0)) sum.natAbs least)

/-- The value with its sign inverted. -/
def FpValue.negate : FpValue → FpValue
  | .nan => .nan
  | .inf n => .inf !n
  | .fin n m e => .fin (!n) m e

/-- The product of two values; none for a not-a-number. -/
def FpFormat.mulValues (t : FpFormat) : FpValue → FpValue → Option Nat
  | .nan, _ => none
  | _, .nan => none
  | .inf n, .inf n' => some (t.withSign (n ^^ n') t.infBits)
  | .inf n, .fin n' m _ => if m = 0 then none else some (t.withSign (n ^^ n') t.infBits)
  | .fin n m _, .inf n' => if m = 0 then none else some (t.withSign (n ^^ n') t.infBits)
  | .fin n m e, .fin n' m' e' => some (t.round (n ^^ n') (m * m') (e + e'))

/-- The quotient of two values; none for a not-a-number. The quotient is computed to more bits than the
format holds, with a last bit that says whether anything is left over. -/
def FpFormat.divValues (t : FpFormat) : FpValue → FpValue → Option Nat
  | .nan, _ => none
  | _, .nan => none
  | .inf _, .inf _ => none
  | .inf n, .fin n' _ _ => some (t.withSign (n ^^ n') t.infBits)
  | .fin n _ _, .inf n' => some (t.withSign (n ^^ n') 0)
  | .fin n m e, .fin n' m' e' =>
    if m' = 0 then
      if m = 0 then none else some (t.withSign (n ^^ n') t.infBits)
    else
      let extra := 2 * t.fracBits + 5
      let q := m * 2 ^ extra / m'
      let left := if m * 2 ^ extra % m' = 0 then 0 else 1
      some (t.round (n ^^ n') (2 * q + left) (e - e' - extra - 1))

/-- The arithmetic operations of R351 on bit patterns of a format; none for a not-a-number. -/
def FpFormat.binary (t : FpFormat) (op : FpBin) (a b : Nat) : Option Nat :=
  match op with
  | .add => t.addValues (t.decode a) (t.decode b)
  | .sub => t.addValues (t.decode a) (t.decode b).negate
  | .mul => t.mulValues (t.decode a) (t.decode b)
  | .div => t.divValues (t.decode a) (t.decode b)

/-- Ordered equality: false with a not-a-number, +0 equal to -0 (R351). -/
def FpValue.equal : FpValue → FpValue → Bool
  | .inf n, .inf n' => n == n'
  | .fin n m e, .fin n' m' e' =>
    decide (scaled n m e (min e e') = scaled n' m' e' (min e e'))
  | _, _ => false

/-- Ordered less-than: false with a not-a-number (R351). -/
def FpValue.less : FpValue → FpValue → Bool
  | .inf n, .inf n' => n && !n'
  | .inf n, .fin _ _ _ => n
  | .fin _ _ _, .inf n => !n
  | .fin n m e, .fin n' m' e' =>
    decide (scaled n m e (min e e') < scaled n' m' e' (min e e'))
  | _, _ => false

/-- The comparisons of R351. -/
def FpValue.compare (op : FpCmp) (a b : FpValue) : Bool :=
  match op with
  | .eq => a.equal b
  | .lt => a.less b
  | .le => a.less b || a.equal b

/-- The integer a value is, or the neighbour chosen by `up` for a value with a fraction; none for an infinity
or a not-a-number (R367). -/
def FpValue.toInteger (up : Bool) : FpValue → Option Int
  | .nan => none
  | .inf _ => none
  | .fin n m e =>
    if 0 ≤ e then some (scaled n m e 0)
    else
      let v : Int := if n then -(m : Int) else m
      let d : Int := 2 ^ (-e).toNat
      if v % d = 0 then some (v / d)
      else if up then some (v / d + 1) else some (v / d)

/-! The functions of R351. -/

/-- `fp_add_s`, `fp_sub_s`, `fp_mul_s`, `fp_div_s` (R351). -/
def fpBinS (p : FpNumerics) (op : FpBin) (a b : Word) : Word :=
  match p with
  | .ieee754 =>
    match binary32.binary op a.toNat b.toNat with
    | some r => BitVec.ofNat 32 r
    | none => BitVec.ofNat 32 (binary32.asNan (Config.nanS op a b).toNat)
  | .unspecified => Config.fpBinS op a b

/-- `fp_add_d`, `fp_sub_d`, `fp_mul_d`, `fp_div_d` (R351). -/
def fpBinD (p : FpNumerics) (op : FpBin) (a b : DWord) : DWord :=
  match p with
  | .ieee754 =>
    match binary64.binary op a.toNat b.toNat with
    | some r => BitVec.ofNat 64 r
    | none => BitVec.ofNat 64 (binary64.asNan (Config.nanD op a b).toNat)
  | .unspecified => Config.fpBinD op a b

/-- `fp_abs_s`, `fp_neg_s`: the sign bit cleared, inverted (R351). -/
def fpUnS (p : FpNumerics) (op : FpUn) (a : Word) : Word :=
  match p with
  | .ieee754 =>
    match op with
    | .abs => a &&& 0x7fffffff#32
    | .neg => a ^^^ 0x80000000#32
  | .unspecified => Config.fpUnS op a

/-- `fp_abs_d`, `fp_neg_d`: the sign bit cleared, inverted (R351). -/
def fpUnD (p : FpNumerics) (op : FpUn) (a : DWord) : DWord :=
  match p with
  | .ieee754 =>
    match op with
    | .abs => a &&& 0x7fffffffffffffff#64
    | .neg => a ^^^ 0x8000000000000000#64
  | .unspecified => Config.fpUnD op a

/-- `fp_eq_s`, `fp_lt_s`, `fp_le_s` (R351). -/
def fpCmpS (p : FpNumerics) (op : FpCmp) (a b : Word) : Bool :=
  match p with
  | .ieee754 => (binary32.decode a.toNat).compare op (binary32.decode b.toNat)
  | .unspecified => Config.fpCmpS op a b

/-- `fp_eq_d`, `fp_lt_d`, `fp_le_d` (R351). -/
def fpCmpD (p : FpNumerics) (op : FpCmp) (a b : DWord) : Bool :=
  match p with
  | .ieee754 => (binary64.decode a.toNat).compare op (binary64.decode b.toNat)
  | .unspecified => Config.fpCmpD op a b

/-- A value in another format; none for a not-a-number. -/
def FpFormat.narrow (t : FpFormat) : FpValue → Option Nat
  | .nan => none
  | .inf n => some (t.withSign n t.infBits)
  | .fin n m e => some (t.round n m e)

/-- `fp_cvt_d_s` (R351, R363). -/
def fpCvtDS (p : FpNumerics) (a : Word) : DWord :=
  match p with
  | .ieee754 =>
    match binary64.narrow (binary32.decode a.toNat) with
    | some r => BitVec.ofNat 64 r
    | none => BitVec.ofNat 64 (binary64.asNan (Config.nanDS a).toNat)
  | .unspecified => Config.fpCvtDS a

/-- `fp_cvt_s_d` (R351, R365). -/
def fpCvtSD (p : FpNumerics) (a : DWord) : Word :=
  match p with
  | .ieee754 =>
    match binary32.narrow (binary64.decode a.toNat) with
    | some r => BitVec.ofNat 32 r
    | none => BitVec.ofNat 32 (binary32.asNan (Config.nanSD a).toNat)
  | .unspecified => Config.fpCvtSD a

/-- `fp_cvt_d_w`: the signed value, exact (R351, R364). -/
def fpCvtDW (p : FpNumerics) (a : Word) : DWord :=
  match p with
  | .ieee754 => BitVec.ofNat 64 (binary64.round (decide (a.toInt < 0)) a.toInt.natAbs 0)
  | .unspecified => Config.fpCvtDW a

/-- `fp_cvt_s_w`: the signed value, rounded (R351, R366). -/
def fpCvtSW (p : FpNumerics) (a : Word) : Word :=
  match p with
  | .ieee754 => BitVec.ofNat 32 (binary32.round (decide (a.toInt < 0)) a.toInt.natAbs 0)
  | .unspecified => Config.fpCvtSW a

/-- An integer that fits a word, else the free value (R367: out of range, any value). -/
def wordOfInteger (free : Word) (n : Option Int) : Word :=
  match n with
  | some i => if -2147483648 ≤ i ∧ i ≤ 2147483647 then BitVec.ofInt 32 i else free
  | none => free

/-- `fp_cvt_w_s`, with the free value for an operand that the spec gives no result (R367, R368). -/
def fpCvtWS (p : FpNumerics) (free a : Word) : Word :=
  match p with
  | .ieee754 => wordOfInteger free ((binary32.decode a.toNat).toInteger (Config.roundUpS a))
  | .unspecified => Config.fpCvtWS a

/-- `fp_cvt_w_d`, with the free value for an operand that the spec gives no result (R367). -/
def fpCvtWD (p : FpNumerics) (free : Word) (a : DWord) : Word :=
  match p with
  | .ieee754 => wordOfInteger free ((binary64.decode a.toNat).toInteger (Config.roundUpD a))
  | .unspecified => Config.fpCvtWD a

end Sys2Proof.Machine
end

