-- ==== Sys2Proof/Machine/Float.lean ====
section
/-! DEFINITION. The bare floating point instructions (46_float.md).

Each names even registers only (R350), raises nothing (R352), and takes its numeric result from the functions
of FpNumerics.lean (R351). -/

namespace Sys2Proof.Machine

/-- A computational floating point instruction: refused if it names an odd register (R41, R350). -/
def evenOnly (regs : List RegIdx) (k : Effect) : Effect :=
  if regs.all evenReg then k else .refuse .oddFpRegister

/-- `fd(FRdest) <- fp_add_d(fd(FRsrc1), fd(FRsrc2))` (R355). -/
def opAddD (fd : RegIdx) (fs : RegIdx) (ft : RegIdx) (s : State) : Effect :=
  evenOnly [fd, fs, ft] (.done (s.setFd fd (fpBinD s.params.fpNumerics .add (s.fd fs) (s.fd ft))).retire)

/-- The meaning of `add.d` (R355). -/
def execAddD (fd : RegIdx) (fs : RegIdx) (ft : RegIdx) (s : State) : Host.Outcome State Fault Refusal :=
  (opAddD fd fs ft s).outcome

/-- `f[FRdest] <- fp_add_s(f[FRsrc1], f[FRsrc2])` (R356). -/
def opAddS (fd : RegIdx) (fs : RegIdx) (ft : RegIdx) (s : State) : Effect :=
  evenOnly [fd, fs, ft] (.done (s.setF fd (fpBinS s.params.fpNumerics .add (s.f fs) (s.f ft))).retire)

/-- The meaning of `add.s` (R356). -/
def execAddS (fd : RegIdx) (fs : RegIdx) (ft : RegIdx) (s : State) : Host.Outcome State Fault Refusal :=
  (opAddS fd fs ft s).outcome

/-- `fd(FRdest) <- fp_sub_d(fd(FRsrc1), fd(FRsrc2))` (R381). -/
def opSubD (fd : RegIdx) (fs : RegIdx) (ft : RegIdx) (s : State) : Effect :=
  evenOnly [fd, fs, ft] (.done (s.setFd fd (fpBinD s.params.fpNumerics .sub (s.fd fs) (s.fd ft))).retire)

/-- The meaning of `sub.d` (R381). -/
def execSubD (fd : RegIdx) (fs : RegIdx) (ft : RegIdx) (s : State) : Host.Outcome State Fault Refusal :=
  (opSubD fd fs ft s).outcome

/-- `f[FRdest] <- fp_sub_s(f[FRsrc1], f[FRsrc2])` (R382). -/
def opSubS (fd : RegIdx) (fs : RegIdx) (ft : RegIdx) (s : State) : Effect :=
  evenOnly [fd, fs, ft] (.done (s.setF fd (fpBinS s.params.fpNumerics .sub (s.f fs) (s.f ft))).retire)

/-- The meaning of `sub.s` (R382). -/
def execSubS (fd : RegIdx) (fs : RegIdx) (ft : RegIdx) (s : State) : Host.Outcome State Fault Refusal :=
  (opSubS fd fs ft s).outcome

/-- `fd(FRdest) <- fp_mul_d(fd(FRsrc1), fd(FRsrc2))` (R375). -/
def opMulD (fd : RegIdx) (fs : RegIdx) (ft : RegIdx) (s : State) : Effect :=
  evenOnly [fd, fs, ft] (.done (s.setFd fd (fpBinD s.params.fpNumerics .mul (s.fd fs) (s.fd ft))).retire)

/-- The meaning of `mul.d` (R375). -/
def execMulD (fd : RegIdx) (fs : RegIdx) (ft : RegIdx) (s : State) : Host.Outcome State Fault Refusal :=
  (opMulD fd fs ft s).outcome

/-- `f[FRdest] <- fp_mul_s(f[FRsrc1], f[FRsrc2])` (R376). -/
def opMulS (fd : RegIdx) (fs : RegIdx) (ft : RegIdx) (s : State) : Effect :=
  evenOnly [fd, fs, ft] (.done (s.setF fd (fpBinS s.params.fpNumerics .mul (s.f fs) (s.f ft))).retire)

/-- The meaning of `mul.s` (R376). -/
def execMulS (fd : RegIdx) (fs : RegIdx) (ft : RegIdx) (s : State) : Host.Outcome State Fault Refusal :=
  (opMulS fd fs ft s).outcome

/-- `fd(FRdest) <- fp_div_d(fd(FRsrc1), fd(FRsrc2))` (R369). -/
def opDivD (fd : RegIdx) (fs : RegIdx) (ft : RegIdx) (s : State) : Effect :=
  evenOnly [fd, fs, ft] (.done (s.setFd fd (fpBinD s.params.fpNumerics .div (s.fd fs) (s.fd ft))).retire)

/-- The meaning of `div.d` (R369). -/
def execDivD (fd : RegIdx) (fs : RegIdx) (ft : RegIdx) (s : State) : Host.Outcome State Fault Refusal :=
  (opDivD fd fs ft s).outcome

/-- `f[FRdest] <- fp_div_s(f[FRsrc1], f[FRsrc2])` (R370). -/
def opDivS (fd : RegIdx) (fs : RegIdx) (ft : RegIdx) (s : State) : Effect :=
  evenOnly [fd, fs, ft] (.done (s.setF fd (fpBinS s.params.fpNumerics .div (s.f fs) (s.f ft))).retire)

/-- The meaning of `div.s` (R370). -/
def execDivS (fd : RegIdx) (fs : RegIdx) (ft : RegIdx) (s : State) : Host.Outcome State Fault Refusal :=
  (opDivS fd fs ft s).outcome

/-- `fd(FRdest) <- fp_abs_d(fd(FRsrc))` (R353). -/
def opAbsD (fd : RegIdx) (fs : RegIdx) (s : State) : Effect :=
  evenOnly [fd, fs] (.done (s.setFd fd (fpUnD s.params.fpNumerics .abs (s.fd fs))).retire)

/-- The meaning of `abs.d` (R353). -/
def execAbsD (fd : RegIdx) (fs : RegIdx) (s : State) : Host.Outcome State Fault Refusal :=
  (opAbsD fd fs s).outcome

/-- `f[FRdest] <- fp_abs_s(f[FRsrc])` (R354). -/
def opAbsS (fd : RegIdx) (fs : RegIdx) (s : State) : Effect :=
  evenOnly [fd, fs] (.done (s.setF fd (fpUnS s.params.fpNumerics .abs (s.f fs))).retire)

/-- The meaning of `abs.s` (R354). -/
def execAbsS (fd : RegIdx) (fs : RegIdx) (s : State) : Host.Outcome State Fault Refusal :=
  (opAbsS fd fs s).outcome

/-- `fd(FRdest) <- fp_neg_d(fd(FRsrc))` (R377). -/
def opNegD (fd : RegIdx) (fs : RegIdx) (s : State) : Effect :=
  evenOnly [fd, fs] (.done (s.setFd fd (fpUnD s.params.fpNumerics .neg (s.fd fs))).retire)

/-- The meaning of `neg.d` (R377). -/
def execNegD (fd : RegIdx) (fs : RegIdx) (s : State) : Host.Outcome State Fault Refusal :=
  (opNegD fd fs s).outcome

/-- `f[FRdest] <- fp_neg_s(f[FRsrc])` (R378). -/
def opNegS (fd : RegIdx) (fs : RegIdx) (s : State) : Effect :=
  evenOnly [fd, fs] (.done (s.setF fd (fpUnS s.params.fpNumerics .neg (s.f fs))).retire)

/-- The meaning of `neg.s` (R378). -/
def execNegS (fd : RegIdx) (fs : RegIdx) (s : State) : Host.Outcome State Fault Refusal :=
  (opNegS fd fs s).outcome

/-- A copy of 64 bits, every pattern unchanged (R373). -/
def opMovD (fd : RegIdx) (fs : RegIdx) (s : State) : Effect :=
  evenOnly [fd, fs] (.done (s.setFd fd (s.fd fs)).retire)

/-- The meaning of `mov.d` (R373). -/
def execMovD (fd : RegIdx) (fs : RegIdx) (s : State) : Host.Outcome State Fault Refusal :=
  (opMovD fd fs s).outcome

/-- A copy of 32 bits (R374). -/
def opMovS (fd : RegIdx) (fs : RegIdx) (s : State) : Effect :=
  evenOnly [fd, fs] (.done (s.setF fd (s.f fs)).retire)

/-- The meaning of `mov.s` (R374). -/
def execMovS (fd : RegIdx) (fs : RegIdx) (s : State) : Host.Outcome State Fault Refusal :=
  (opMovS fd fs s).outcome

/-- `fd(FRdest) <- fp_cvt_d_s(f[FRsrc])` (R363). -/
def opCvtDS (fd : RegIdx) (fs : RegIdx) (s : State) : Effect :=
  evenOnly [fd, fs] (.done (s.setFd fd (fpCvtDS s.params.fpNumerics (s.f fs))).retire)

/-- The meaning of `cvt.d.s` (R363). -/
def execCvtDS (fd : RegIdx) (fs : RegIdx) (s : State) : Host.Outcome State Fault Refusal :=
  (opCvtDS fd fs s).outcome

/-- `fd(FRdest) <- fp_cvt_d_w(f[FRsrc])` (R364). -/
def opCvtDW (fd : RegIdx) (fs : RegIdx) (s : State) : Effect :=
  evenOnly [fd, fs] (.done (s.setFd fd (fpCvtDW s.params.fpNumerics (s.f fs))).retire)

/-- The meaning of `cvt.d.w` (R364). -/
def execCvtDW (fd : RegIdx) (fs : RegIdx) (s : State) : Host.Outcome State Fault Refusal :=
  (opCvtDW fd fs s).outcome

/-- `f[FRdest] <- fp_cvt_s_d(fd(FRsrc))` (R365). -/
def opCvtSD (fd : RegIdx) (fs : RegIdx) (s : State) : Effect :=
  evenOnly [fd, fs] (.done (s.setF fd (fpCvtSD s.params.fpNumerics (s.fd fs))).retire)

/-- The meaning of `cvt.s.d` (R365). -/
def execCvtSD (fd : RegIdx) (fs : RegIdx) (s : State) : Host.Outcome State Fault Refusal :=
  (opCvtSD fd fs s).outcome

/-- `f[FRdest] <- fp_cvt_s_w(f[FRsrc])` (R366). -/
def opCvtSW (fd : RegIdx) (fs : RegIdx) (s : State) : Effect :=
  evenOnly [fd, fs] (.done (s.setF fd (fpCvtSW s.params.fpNumerics (s.f fs))).retire)

/-- The meaning of `cvt.s.w` (R366). -/
def execCvtSW (fd : RegIdx) (fs : RegIdx) (s : State) : Host.Outcome State Fault Refusal :=
  (opCvtSW fd fs s).outcome

/-- `f[FRdest] <- fp_cvt_w_d(fd(FRsrc))` (R367). -/
def opCvtWD (fd : RegIdx) (fs : RegIdx) (s : State) : Effect :=
  evenOnly [fd, fs]
    (.done (s.setF fd (fpCvtWD s.params.fpNumerics (s.draw .convertedInt) (s.fd fs))).retire)

/-- The meaning of `cvt.w.d` (R367). -/
def execCvtWD (fd : RegIdx) (fs : RegIdx) (s : State) : Host.Outcome State Fault Refusal :=
  (opCvtWD fd fs s).outcome

/-- `f[FRdest] <- fp_cvt_w_s(f[FRsrc])` (R368). -/
def opCvtWS (fd : RegIdx) (fs : RegIdx) (s : State) : Effect :=
  evenOnly [fd, fs]
    (.done (s.setF fd (fpCvtWS s.params.fpNumerics (s.draw .convertedInt) (s.f fs))).retire)

/-- The meaning of `cvt.w.s` (R368). -/
def execCvtWS (fd : RegIdx) (fs : RegIdx) (s : State) : Host.Outcome State Fault Refusal :=
  (opCvtWS fd fs s).outcome

/-- `cc[1] <- fp_eq_d(fd(FRsrc1), fd(FRsrc2))` (R357). -/
def opCEqD (fs : RegIdx) (ft : RegIdx) (s : State) : Effect :=
  evenOnly [fs, ft] (.done (s.setCc1 (fpCmpD s.params.fpNumerics .eq (s.fd fs) (s.fd ft))).retire)

/-- The meaning of `c.eq.d` (R357). -/
def execCEqD (fs : RegIdx) (ft : RegIdx) (s : State) : Host.Outcome State Fault Refusal :=
  (opCEqD fs ft s).outcome

/-- `cc[1] <- fp_eq_s(f[FRsrc1], f[FRsrc2])` (R358). -/
def opCEqS (fs : RegIdx) (ft : RegIdx) (s : State) : Effect :=
  evenOnly [fs, ft] (.done (s.setCc1 (fpCmpS s.params.fpNumerics .eq (s.f fs) (s.f ft))).retire)

/-- The meaning of `c.eq.s` (R358). -/
def execCEqS (fs : RegIdx) (ft : RegIdx) (s : State) : Host.Outcome State Fault Refusal :=
  (opCEqS fs ft s).outcome

/-- `cc[1] <- fp_le_d(fd(FRsrc1), fd(FRsrc2))` (R359). -/
def opCLeD (fs : RegIdx) (ft : RegIdx) (s : State) : Effect :=
  evenOnly [fs, ft] (.done (s.setCc1 (fpCmpD s.params.fpNumerics .le (s.fd fs) (s.fd ft))).retire)

/-- The meaning of `c.le.d` (R359). -/
def execCLeD (fs : RegIdx) (ft : RegIdx) (s : State) : Host.Outcome State Fault Refusal :=
  (opCLeD fs ft s).outcome

/-- `cc[1] <- fp_le_s(f[FRsrc1], f[FRsrc2])` (R360). -/
def opCLeS (fs : RegIdx) (ft : RegIdx) (s : State) : Effect :=
  evenOnly [fs, ft] (.done (s.setCc1 (fpCmpS s.params.fpNumerics .le (s.f fs) (s.f ft))).retire)

/-- The meaning of `c.le.s` (R360). -/
def execCLeS (fs : RegIdx) (ft : RegIdx) (s : State) : Host.Outcome State Fault Refusal :=
  (opCLeS fs ft s).outcome

/-- `cc[1] <- fp_lt_d(fd(FRsrc1), fd(FRsrc2))` (R361). -/
def opCLtD (fs : RegIdx) (ft : RegIdx) (s : State) : Effect :=
  evenOnly [fs, ft] (.done (s.setCc1 (fpCmpD s.params.fpNumerics .lt (s.fd fs) (s.fd ft))).retire)

/-- The meaning of `c.lt.d` (R361). -/
def execCLtD (fs : RegIdx) (ft : RegIdx) (s : State) : Host.Outcome State Fault Refusal :=
  (opCLtD fs ft s).outcome

/-- `cc[1] <- fp_lt_s(f[FRsrc1], f[FRsrc2])` (R362). -/
def opCLtS (fs : RegIdx) (ft : RegIdx) (s : State) : Effect :=
  evenOnly [fs, ft] (.done (s.setCc1 (fpCmpS s.params.fpNumerics .lt (s.f fs) (s.f ft))).retire)

/-- The meaning of `c.lt.s` (R362). -/
def execCLtS (fs : RegIdx) (ft : RegIdx) (s : State) : Host.Outcome State Fault Refusal :=
  (opCLtS fs ft s).outcome

end Sys2Proof.Machine
end

