-- ==== Sys2Proof/Machine/Load.lean ====
section
/-! DEFINITION. The bare load instructions (43_load.md).

Every one computes its address, passes the checks of `loadAt` and then reads (R280). -/

namespace Sys2Proof.Machine

/-- A general register loaded; it is in its delay where there are load delay slots (R280, R472). -/
def State.writeLoaded (s : State) (rt : RegIdx) (v : Word) : Effect :=
  .done ((s.setX rt v).retireLoad (.gpr rt false))

/-- A general register loaded by `lwl` or `lwr`, which the other may follow at once (R472). -/
def State.writePartial (s : State) (rt : RegIdx) (v : Word) : Effect :=
  .done ((s.setX rt v).retireLoad (.gpr rt true))

/-- `x[rt] <- sext_8(MemRead(a, 1))` (R283). -/
def opLb (rt : RegIdx) (imm : Half) (rs : RegIdx) (s : State) : Effect :=
  let a := s.ea imm rs
  s.loadAt a true [a] (s.writeLoaded rt ((s.byte a).signExtend 32))

/-- The meaning of `lb` (R283). -/
def execLb (rt : RegIdx) (imm : Half) (rs : RegIdx) (s : State) : Host.Outcome State Fault Refusal :=
  (opLb rt imm rs s).outcome

/-- `x[rt] <- zext_8(MemRead(a, 1))` (R284). -/
def opLbu (rt : RegIdx) (imm : Half) (rs : RegIdx) (s : State) : Effect :=
  let a := s.ea imm rs
  s.loadAt a true [a] (s.writeLoaded rt ((s.byte a).setWidth 32))

/-- The meaning of `lbu` (R284). -/
def execLbu (rt : RegIdx) (imm : Half) (rs : RegIdx) (s : State) : Host.Outcome State Fault Refusal :=
  (opLbu rt imm rs s).outcome

/-- `x[rt] <- sext_16(MemRead(a, 2))` (R286). -/
def opLh (rt : RegIdx) (imm : Half) (rs : RegIdx) (s : State) : Effect :=
  let a := s.ea imm rs
  s.loadAt a (aligned2 a) [a, a + 1#32] (s.writeLoaded rt ((s.half a).signExtend 32))

/-- The meaning of `lh` (R286). -/
def execLh (rt : RegIdx) (imm : Half) (rs : RegIdx) (s : State) : Host.Outcome State Fault Refusal :=
  (opLh rt imm rs s).outcome

/-- `x[rt] <- zext_16(MemRead(a, 2))` (R287). -/
def opLhu (rt : RegIdx) (imm : Half) (rs : RegIdx) (s : State) : Effect :=
  let a := s.ea imm rs
  s.loadAt a (aligned2 a) [a, a + 1#32] (s.writeLoaded rt ((s.half a).setWidth 32))

/-- The meaning of `lhu` (R287). -/
def execLhu (rt : RegIdx) (imm : Half) (rs : RegIdx) (s : State) : Host.Outcome State Fault Refusal :=
  (opLhu rt imm rs s).outcome

/-- `x[rt] <- MemRead(a, 4)` (R288). -/
def opLw (rt : RegIdx) (imm : Half) (rs : RegIdx) (s : State) : Effect :=
  let a := s.ea imm rs
  s.loadAt a (aligned4 a) (wordSpan a) (s.writeLoaded rt (s.word a))

/-- The meaning of `lw` (R288). -/
def execLw (rt : RegIdx) (imm : Half) (rs : RegIdx) (s : State) : Host.Outcome State Fault Refusal :=
  (opLw rt imm rs s).outcome

/-- The upper bytes of `rt` from the aligned word that contains `a` (R290). -/
def opLwl (rt : RegIdx) (imm : Half) (rs : RegIdx) (s : State) : Effect :=
  let a := s.ea imm rs
  s.loadAt a true (wordSpan (alignedWord a))
    (s.writePartial rt (s.merged (leftAddress s.params.bigEndian a) (s.xMerged rt)))

/-- The meaning of `lwl` (R290). -/
def execLwl (rt : RegIdx) (imm : Half) (rs : RegIdx) (s : State) : Host.Outcome State Fault Refusal :=
  (opLwl rt imm rs s).outcome

/-- The lower bytes of `rt` from the aligned word that contains `a` (R291). -/
def opLwr (rt : RegIdx) (imm : Half) (rs : RegIdx) (s : State) : Effect :=
  let a := s.ea imm rs
  s.loadAt a true (wordSpan (alignedWord a))
    (s.writePartial rt (s.merged (rightAddress s.params.bigEndian a) (s.xMerged rt)))

/-- The meaning of `lwr` (R291). -/
def execLwr (rt : RegIdx) (imm : Half) (rs : RegIdx) (s : State) : Host.Outcome State Fault Refusal :=
  (opLwr rt imm rs s).outcome

/-- A write of `c0[rt]` with the word read, under the rules of `mtc0` (R289, R337). The address is checked before
the mode and the register, in the order in which R289 is written (notes/assumptions 13). -/
def opLwc0 (rt : RegIdx) (imm : Half) (rs : RegIdx) (s : State) : Effect :=
  let a := s.ea imm rs
  s.loadAt a (aligned4 a) (wordSpan a) <| s.privileged <|
    match cp0WriteRefusal rt with
    | some r => .refuse r
    | none => s.writeStatus (s.word a)

/-- The meaning of `lwc0` (R289). -/
def execLwc0 (rt : RegIdx) (imm : Half) (rs : RegIdx) (s : State) : Host.Outcome State Fault Refusal :=
  (opLwc0 rt imm rs s).outcome

/-- `f[rt] <- MemRead(a, 4)`, any of the 32 registers (R289). -/
def opLwc1 (rt : RegIdx) (imm : Half) (rs : RegIdx) (s : State) : Effect :=
  let a := s.ea imm rs
  s.loadAt a (aligned4 a) (wordSpan a) (.done ((s.setF rt (s.word a)).retireLoad (.fpr rt)))

/-- The meaning of `lwc1` (R289). -/
def execLwc1 (rt : RegIdx) (imm : Half) (rs : RegIdx) (s : State) : Host.Outcome State Fault Refusal :=
  (opLwc1 rt imm rs s).outcome

/-- The exceptions of the read (R289), then refused: coprocessor 2 is not described (R42). -/
def opLwc2 (_rt : RegIdx) (imm : Half) (rs : RegIdx) (s : State) : Effect :=
  let a := s.ea imm rs
  s.loadAt a (aligned4 a) (wordSpan a) (.refuse .coprocessorAbsent)

/-- The meaning of `lwc2` (R289). -/
def execLwc2 (rt : RegIdx) (imm : Half) (rs : RegIdx) (s : State) : Host.Outcome State Fault Refusal :=
  (opLwc2 rt imm rs s).outcome

/-- The exceptions of the read (R289), then refused: coprocessor 3 is not described (R42). -/
def opLwc3 (_rt : RegIdx) (imm : Half) (rs : RegIdx) (s : State) : Effect :=
  let a := s.ea imm rs
  s.loadAt a (aligned4 a) (wordSpan a) (.refuse .coprocessorAbsent)

/-- The meaning of `lwc3` (R289). -/
def execLwc3 (rt : RegIdx) (imm : Half) (rs : RegIdx) (s : State) : Host.Outcome State Fault Refusal :=
  (opLwc3 rt imm rs s).outcome

end Sys2Proof.Machine
end

