-- ==== Sys2Proof/Machine/Store.lean ====
section
/-! DEFINITION. The bare store instructions (44_store.md).

Every one computes its address, passes the checks of `storeAt` and then writes (R310); no register changes. -/

namespace Sys2Proof.Machine

/-- `MemWrite(a, 1, x[rt][7:0])` (R311). -/
def opSb (rt : RegIdx) (imm : Half) (rs : RegIdx) (s : State) : Effect :=
  let a := s.ea imm rs
  s.storeAt a true [a] [(a, (s.x rt).extractLsb' 0 8)]

/-- The meaning of `sb` (R311). -/
def execSb (rt : RegIdx) (imm : Half) (rs : RegIdx) (s : State) : Host.Outcome State Fault Refusal :=
  (opSb rt imm rs s).outcome

/-- `MemWrite(a, 2, x[rt][15:0])` (R313). -/
def opSh (rt : RegIdx) (imm : Half) (rs : RegIdx) (s : State) : Effect :=
  let a := s.ea imm rs
  s.storeAt a (aligned2 a) [a, a + 1#32] (halfBytes s.params.bigEndian a ((s.x rt).extractLsb' 0 16))

/-- The meaning of `sh` (R313). -/
def execSh (rt : RegIdx) (imm : Half) (rs : RegIdx) (s : State) : Host.Outcome State Fault Refusal :=
  (opSh rt imm rs s).outcome

/-- `MemWrite(a, 4, x[rt])` (R314). -/
def opSw (rt : RegIdx) (imm : Half) (rs : RegIdx) (s : State) : Effect :=
  let a := s.ea imm rs
  s.storeAt a (aligned4 a) (wordSpan a) (wordBytes s.params.bigEndian a (s.x rt))

/-- The meaning of `sw` (R314). -/
def execSw (rt : RegIdx) (imm : Half) (rs : RegIdx) (s : State) : Host.Outcome State Fault Refusal :=
  (opSw rt imm rs s).outcome

/-- The bytes that `lwl` would load, from the register to memory (R316). -/
def opSwl (rt : RegIdx) (imm : Half) (rs : RegIdx) (s : State) : Effect :=
  let a := s.ea imm rs
  s.storeAt a true (wordSpan (alignedWord a)) (partialBytes (leftAddress s.params.bigEndian a) (s.x rt))

/-- The meaning of `swl` (R316). -/
def execSwl (rt : RegIdx) (imm : Half) (rs : RegIdx) (s : State) : Host.Outcome State Fault Refusal :=
  (opSwl rt imm rs s).outcome

/-- The bytes that `lwr` would load, from the register to memory (R317). -/
def opSwr (rt : RegIdx) (imm : Half) (rs : RegIdx) (s : State) : Effect :=
  let a := s.ea imm rs
  s.storeAt a true (wordSpan (alignedWord a)) (partialBytes (rightAddress s.params.bigEndian a) (s.x rt))

/-- The meaning of `swr` (R317). -/
def execSwr (rt : RegIdx) (imm : Half) (rs : RegIdx) (s : State) : Host.Outcome State Fault Refusal :=
  (opSwr rt imm rs s).outcome

/-- `MemWrite(a, 4, c0[rt])` for the four described registers (R315). The alignment is checked before the mode and
the register, in the order in which R315 is written (notes/assumptions 13). -/
def opSwc0 (rt : RegIdx) (imm : Half) (rs : RegIdx) (s : State) : Effect :=
  let a := s.ea imm rs
  s.ifAligned .addrs a <| s.privileged <|
    match s.cp0Read rt with
    | none => .refuse .cp0RegisterNotDescribed
    | some v => s.storeAt a (aligned4 a) (wordSpan a) (wordBytes s.params.bigEndian a v)

/-- The meaning of `swc0` (R315). -/
def execSwc0 (rt : RegIdx) (imm : Half) (rs : RegIdx) (s : State) : Host.Outcome State Fault Refusal :=
  (opSwc0 rt imm rs s).outcome

/-- `MemWrite(a, 4, f[rt])`, any of the 32 registers (R315). -/
def opSwc1 (rt : RegIdx) (imm : Half) (rs : RegIdx) (s : State) : Effect :=
  let a := s.ea imm rs
  s.storeAt a (aligned4 a) (wordSpan a) (wordBytes s.params.bigEndian a (s.f rt))

/-- The meaning of `swc1` (R315). -/
def execSwc1 (rt : RegIdx) (imm : Half) (rs : RegIdx) (s : State) : Host.Outcome State Fault Refusal :=
  (opSwc1 rt imm rs s).outcome

/-- ADDRS for a misaligned address (R315), else refused: coprocessor 2 is not described (R42). -/
def opSwc2 (_rt : RegIdx) (imm : Half) (rs : RegIdx) (s : State) : Effect :=
  s.ifAligned .addrs (s.ea imm rs) (.refuse .coprocessorAbsent)

/-- The meaning of `swc2` (R315). -/
def execSwc2 (rt : RegIdx) (imm : Half) (rs : RegIdx) (s : State) : Host.Outcome State Fault Refusal :=
  (opSwc2 rt imm rs s).outcome

/-- ADDRS for a misaligned address (R315), else refused: coprocessor 3 is not described (R42). -/
def opSwc3 (_rt : RegIdx) (imm : Half) (rs : RegIdx) (s : State) : Effect :=
  s.ifAligned .addrs (s.ea imm rs) (.refuse .coprocessorAbsent)

/-- The meaning of `swc3` (R315). -/
def execSwc3 (rt : RegIdx) (imm : Half) (rs : RegIdx) (s : State) : Host.Outcome State Fault Refusal :=
  (opSwc3 rt imm rs s).outcome

end Sys2Proof.Machine
end

