-- ==== Sys2Proof/Machine/Words.lean ====
section
/-! DEFINITION. One bare instruction as an effect, whichever it is: what the expansion of a pseudoinstruction
is run with (R121). -/

namespace Sys2Proof.Machine

/-- The effect of a bare instruction. A pseudoinstruction is no word: no expansion contains one. -/
def wordEffect (i : Instr) (s : State) : Effect :=
  match i with
  | .sll rd rt shamt => opSll rd rt shamt s
  | .srl rd rt shamt => opSrl rd rt shamt s
  | .sra rd rt shamt => opSra rd rt shamt s
  | .sllv rd rt rs => opSllv rd rt rs s
  | .srlv rd rt rs => opSrlv rd rt rs s
  | .srav rd rt rs => opSrav rd rt rs s
  | .jr rs => opJr rs s
  | .jalr rd rs => opJalr rd rs s
  | .syscall code => opSyscall code s
  | .brk code => opBrk code s
  | .mfhi rd => opMfhi rd s
  | .mthi rs => opMthi rs s
  | .mflo rd => opMflo rd s
  | .mtlo rs => opMtlo rs s
  | .mult rs rt => opMult rs rt s
  | .multu rs rt => opMultu rs rt s
  | .div rs rt => opDiv rs rt s
  | .divu rs rt => opDivu rs rt s
  | .add rd rs rt => opAdd rd rs rt s
  | .addu rd rs rt => opAddu rd rs rt s
  | .sub rd rs rt => opSub rd rs rt s
  | .subu rd rs rt => opSubu rd rs rt s
  | .and rd rs rt => opAnd rd rs rt s
  | .or rd rs rt => opOr rd rs rt s
  | .xor rd rs rt => opXor rd rs rt s
  | .nor rd rs rt => opNor rd rs rt s
  | .slt rd rs rt => opSlt rd rs rt s
  | .sltu rd rs rt => opSltu rd rs rt s
  | .bltz rs imm => opBltz rs imm s
  | .bgez rs imm => opBgez rs imm s
  | .bltzal rs imm => opBltzal rs imm s
  | .bgezal rs imm => opBgezal rs imm s
  | .j target => opJ target s
  | .jal target => opJal target s
  | .beq rs rt imm => opBeq rs rt imm s
  | .bne rs rt imm => opBne rs rt imm s
  | .blez rs imm => opBlez rs imm s
  | .bgtz rs imm => opBgtz rs imm s
  | .addi rt rs imm => opAddi rt rs imm s
  | .addiu rt rs imm => opAddiu rt rs imm s
  | .slti rt rs imm => opSlti rt rs imm s
  | .sltiu rt rs imm => opSltiu rt rs imm s
  | .andi rt rs imm => opAndi rt rs imm s
  | .ori rt rs imm => opOri rt rs imm s
  | .xori rt rs imm => opXori rt rs imm s
  | .lui rt imm => opLui rt imm s
  | .mfc0 rt rd => opMfc0 rt rd s
  | .mfc1 rt rd => opMfc1 rt rd s
  | .mfc2 rt rd => opMfc2 rt rd s
  | .mfc3 rt rd => opMfc3 rt rd s
  | .mtc0 rt rd => opMtc0 rt rd s
  | .mtc1 rt rd => opMtc1 rt rd s
  | .mtc2 rt rd => opMtc2 rt rd s
  | .mtc3 rt rd => opMtc3 rt rd s
  | .bc0f imm => opBc0f imm s
  | .bc1f imm => opBc1f imm s
  | .bc2f imm => opBc2f imm s
  | .bc3f imm => opBc3f imm s
  | .bc0t imm => opBc0t imm s
  | .bc1t imm => opBc1t imm s
  | .bc2t imm => opBc2t imm s
  | .bc3t imm => opBc3t imm s
  | .rfe => opRfe s
  | .addD fd fs ft => opAddD fd fs ft s
  | .addS fd fs ft => opAddS fd fs ft s
  | .subD fd fs ft => opSubD fd fs ft s
  | .subS fd fs ft => opSubS fd fs ft s
  | .mulD fd fs ft => opMulD fd fs ft s
  | .mulS fd fs ft => opMulS fd fs ft s
  | .divD fd fs ft => opDivD fd fs ft s
  | .divS fd fs ft => opDivS fd fs ft s
  | .absD fd fs => opAbsD fd fs s
  | .absS fd fs => opAbsS fd fs s
  | .movD fd fs => opMovD fd fs s
  | .movS fd fs => opMovS fd fs s
  | .negD fd fs => opNegD fd fs s
  | .negS fd fs => opNegS fd fs s
  | .cvtDS fd fs => opCvtDS fd fs s
  | .cvtDW fd fs => opCvtDW fd fs s
  | .cvtSD fd fs => opCvtSD fd fs s
  | .cvtSW fd fs => opCvtSW fd fs s
  | .cvtWD fd fs => opCvtWD fd fs s
  | .cvtWS fd fs => opCvtWS fd fs s
  | .cEqD fs ft => opCEqD fs ft s
  | .cEqS fs ft => opCEqS fs ft s
  | .cLeD fs ft => opCLeD fs ft s
  | .cLeS fs ft => opCLeS fs ft s
  | .cLtD fs ft => opCLtD fs ft s
  | .cLtS fs ft => opCLtS fs ft s
  | .lb rt imm rs => opLb rt imm rs s
  | .lh rt imm rs => opLh rt imm rs s
  | .lwl rt imm rs => opLwl rt imm rs s
  | .lw rt imm rs => opLw rt imm rs s
  | .lbu rt imm rs => opLbu rt imm rs s
  | .lhu rt imm rs => opLhu rt imm rs s
  | .lwr rt imm rs => opLwr rt imm rs s
  | .sb rt imm rs => opSb rt imm rs s
  | .sh rt imm rs => opSh rt imm rs s
  | .swl rt imm rs => opSwl rt imm rs s
  | .sw rt imm rs => opSw rt imm rs s
  | .swr rt imm rs => opSwr rt imm rs s
  | .lwc0 rt imm rs => opLwc0 rt imm rs s
  | .lwc1 rt imm rs => opLwc1 rt imm rs s
  | .lwc2 rt imm rs => opLwc2 rt imm rs s
  | .lwc3 rt imm rs => opLwc3 rt imm rs s
  | .swc0 rt imm rs => opSwc0 rt imm rs s
  | .swc1 rt imm rs => opSwc1 rt imm rs s
  | .swc2 rt imm rs => opSwc2 rt imm rs s
  | .swc3 rt imm rs => opSwc3 rt imm rs s
  | .pAbs _ _ => .refuse .pseudoOutsideRestrictions
  | .pDiv _ _ _ => .refuse .pseudoOutsideRestrictions
  | .pDivu _ _ _ => .refuse .pseudoOutsideRestrictions
  | .pMul _ _ _ => .refuse .pseudoOutsideRestrictions
  | .pMulo _ _ _ => .refuse .pseudoOutsideRestrictions
  | .pMulou _ _ _ => .refuse .pseudoOutsideRestrictions
  | .pNeg _ _ => .refuse .pseudoOutsideRestrictions
  | .pNegu _ _ => .refuse .pseudoOutsideRestrictions
  | .pNot _ _ => .refuse .pseudoOutsideRestrictions
  | .pRem _ _ _ => .refuse .pseudoOutsideRestrictions
  | .pRemu _ _ _ => .refuse .pseudoOutsideRestrictions
  | .pRol _ _ _ => .refuse .pseudoOutsideRestrictions
  | .pRolConst _ _ _ => .refuse .pseudoOutsideRestrictions
  | .pRor _ _ _ => .refuse .pseudoOutsideRestrictions
  | .pRorConst _ _ _ => .refuse .pseudoOutsideRestrictions
  | .pLi _ _ => .refuse .pseudoOutsideRestrictions
  | .pSeq _ _ _ => .refuse .pseudoOutsideRestrictions
  | .pSge _ _ _ => .refuse .pseudoOutsideRestrictions
  | .pSgeu _ _ _ => .refuse .pseudoOutsideRestrictions
  | .pSgt _ _ _ => .refuse .pseudoOutsideRestrictions
  | .pSgtu _ _ _ => .refuse .pseudoOutsideRestrictions
  | .pSle _ _ _ => .refuse .pseudoOutsideRestrictions
  | .pSleu _ _ _ => .refuse .pseudoOutsideRestrictions
  | .pSne _ _ _ => .refuse .pseudoOutsideRestrictions
  | .pB _ => .refuse .pseudoOutsideRestrictions
  | .pBeqz _ _ => .refuse .pseudoOutsideRestrictions
  | .pBge _ _ _ => .refuse .pseudoOutsideRestrictions
  | .pBgeu _ _ _ => .refuse .pseudoOutsideRestrictions
  | .pBgt _ _ _ => .refuse .pseudoOutsideRestrictions
  | .pBgtu _ _ _ => .refuse .pseudoOutsideRestrictions
  | .pBle _ _ _ => .refuse .pseudoOutsideRestrictions
  | .pBleu _ _ _ => .refuse .pseudoOutsideRestrictions
  | .pBlt _ _ _ => .refuse .pseudoOutsideRestrictions
  | .pBltu _ _ _ => .refuse .pseudoOutsideRestrictions
  | .pBnez _ _ => .refuse .pseudoOutsideRestrictions
  | .pLa _ _ => .refuse .pseudoOutsideRestrictions
  | .pLd _ _ _ => .refuse .pseudoOutsideRestrictions
  | .pUlh _ _ _ => .refuse .pseudoOutsideRestrictions
  | .pUlhu _ _ _ => .refuse .pseudoOutsideRestrictions
  | .pUlw _ _ _ => .refuse .pseudoOutsideRestrictions
  | .pSd _ _ _ => .refuse .pseudoOutsideRestrictions
  | .pUsh _ _ _ => .refuse .pseudoOutsideRestrictions
  | .pUsw _ _ _ => .refuse .pseudoOutsideRestrictions
  | .pMove _ _ => .refuse .pseudoOutsideRestrictions
  | .pMfc1D _ _ => .refuse .pseudoOutsideRestrictions
  | .pLoadD _ _ _ => .refuse .pseudoOutsideRestrictions
  | .pLoadS _ _ => .refuse .pseudoOutsideRestrictions
  | .pStoreD _ _ _ => .refuse .pseudoOutsideRestrictions
  | .pStoreS _ _ => .refuse .pseudoOutsideRestrictions
  | .pNop => .refuse .pseudoOutsideRestrictions

end Sys2Proof.Machine
end

