-- ==== Sys2Proof/Machine/Pseudo.lean ====
section
/-! DEFINITION. The pseudoinstructions: each is its reference expansion, run word by word (R121).

No interrupt is taken between the words inside one meaning; in a run of the machine the words are fetched one
at a time and an interrupt can come between two of them (R421; notes/assumptions 18). -/

namespace Sys2Proof.Machine

/-- The words of an expansion run from the first on, at most `fuel` of them. After each word control goes on
at the word its new `pc` names; the run ends there when that is none of them, and at the first exception
(R121 d, e). -/
def runWords : Nat → List Instr → State → Effect
  | 0, _, s => .done s
  | _ + 1, [], s => .done s
  | fuel + 1, i :: rest, s =>
    match wordEffect i s with
    | .done t => runWords fuel ((i :: rest).drop ((t.pc - s.pc).toNat / 4)) t
    | .trap t => .trap t
    | .stop r => .stop r
    | .refuse r => .refuse r

/-- Whether an operand is a constant, which the assembler loads into `$at` (R118). -/
def Src2.isConst : Src2 → Bool
  | .reg _ => false
  | .const _ => true

/-- Whether an address operand needs `$at` (R119). -/
def Address.usesAt : Address → Bool
  | .offset _ _ => false
  | .absolute _ => true
  | .indexed _ _ => true

/-- What `$at` holds after a pseudoinstruction, of the free value: none where `$at` is not written or its
value is stated (R121 b, R238, R318). -/
def assemblerTempAfter (i : Instr) (free : Word) : Option Word :=
  match i with
  | .pBge _ _ _ | .pBgeu _ _ _ => some (boolWord (free.getLsbD 0))
  | .pBgt _ _ _ | .pBgtu _ _ _ | .pBle _ _ _ | .pBleu _ _ _ | .pBlt _ _ _ | .pBltu _ _ _ => some free
  | .pDiv _ _ _ | .pMulo _ _ _ | .pMulou _ _ _ => some free
  | .pRol _ _ _ | .pRolConst _ _ _ | .pRor _ _ _ | .pRorConst _ _ _ => some free
  | .pUlh _ _ _ | .pUlhu _ _ _ => some free
  | .pDivu _ _ src | .pMul _ _ src | .pRem _ _ src | .pRemu _ _ src | .pSeq _ _ src
  | .pSge _ _ src | .pSgeu _ _ src | .pSgt _ _ src | .pSgtu _ _ src | .pSle _ _ src
  | .pSleu _ _ src | .pSne _ _ src => if Src2.isConst src then some free else none
  | .pLa _ addr | .pLoadS _ addr | .pStoreS _ addr => if Address.usesAt addr then some free else none
  | _ => none

/-- The state after a pseudoinstruction whose words have all run: `$at` holds an unspecified value where the
expansion writes it (R121 b). -/
def State.afterPseudo (s : State) (i : Instr) : State :=
  match assemblerTempAfter i (s.draw .assemblerTemp) with
  | some v => { s.setX regAt v with freeCount := s.freeCount + 1 }
  | none => s

/-- The state after an exception inside a pseudoinstruction: what the words before it left (R121 e); `Rdest` of
`mulo` has been used as scratch (R178). -/
def State.trappedPseudo (s : State) (i : Instr) : State :=
  match i with
  | .pMulo rd _ _ => { s.setX rd (s.draw .muloScratch) with freeCount := s.freeCount + 1 }
  | _ => s

/-- The words of a pseudoinstruction's reference expansion, one after another, from the current `pc` (R121,
R122). A use outside the restrictions is refused. -/
def runPseudo (i : Instr) (s : State) : Effect :=
  if wellFormed i then
    let words := expand s.params.bigEndian s.params.branchDelaySlot i
    match runWords words.length words s with
    | .done t => .done (t.afterPseudo i)
    | .trap t => .trap (t.trappedPseudo i)
    | .stop r => .stop r
    | .refuse r => .refuse r
  else .refuse .pseudoOutsideRestrictions

/-- The meaning of `abs rd, rs` (R142). -/
def execPAbs (rd : RegIdx) (rs : RegIdx) (s : State) : Host.Outcome State Fault Refusal :=
  (runPseudo (.pAbs rd rs) s).outcome

/-- The meaning of `div rd, rs, rt` (R151). -/
def execPDiv (rd : RegIdx) (rs : RegIdx) (src : Src2) (s : State) : Host.Outcome State Fault Refusal :=
  (runPseudo (.pDiv rd rs src) s).outcome

/-- The meaning of `divu rd, rs, rt` (R152). -/
def execPDivu (rd : RegIdx) (rs : RegIdx) (src : Src2) (s : State) : Host.Outcome State Fault Refusal :=
  (runPseudo (.pDivu rd rs src) s).outcome

/-- The meaning of `mul rd, rs, rt` (R153). -/
def execPMul (rd : RegIdx) (rs : RegIdx) (src : Src2) (s : State) : Host.Outcome State Fault Refusal :=
  (runPseudo (.pMul rd rs src) s).outcome

/-- The meaning of `mulo rd, rs, rt` (R154). -/
def execPMulo (rd : RegIdx) (rs : RegIdx) (src : Src2) (s : State) : Host.Outcome State Fault Refusal :=
  (runPseudo (.pMulo rd rs src) s).outcome

/-- The meaning of `mulou rd, rs, rt` (R155). -/
def execPMulou (rd : RegIdx) (rs : RegIdx) (src : Src2) (s : State) : Host.Outcome State Fault Refusal :=
  (runPseudo (.pMulou rd rs src) s).outcome

/-- The meaning of `neg rd, rs` (R158). -/
def execPNeg (rd : RegIdx) (rs : RegIdx) (s : State) : Host.Outcome State Fault Refusal :=
  (runPseudo (.pNeg rd rs) s).outcome

/-- The meaning of `negu rd, rs` (R159). -/
def execPNegu (rd : RegIdx) (rs : RegIdx) (s : State) : Host.Outcome State Fault Refusal :=
  (runPseudo (.pNegu rd rs) s).outcome

/-- The meaning of `not rd, rs` (R161). -/
def execPNot (rd : RegIdx) (rs : RegIdx) (s : State) : Host.Outcome State Fault Refusal :=
  (runPseudo (.pNot rd rs) s).outcome

/-- The meaning of `rem rd, rs, rt` (R164). -/
def execPRem (rd : RegIdx) (rs : RegIdx) (src : Src2) (s : State) : Host.Outcome State Fault Refusal :=
  (runPseudo (.pRem rd rs src) s).outcome

/-- The meaning of `remu rd, rs, rt` (R165). -/
def execPRemu (rd : RegIdx) (rs : RegIdx) (src : Src2) (s : State) : Host.Outcome State Fault Refusal :=
  (runPseudo (.pRemu rd rs src) s).outcome

/-- The meaning of `rol rd, rs, rt` (R166). -/
def execPRol (rd : RegIdx) (rs : RegIdx) (rt : RegIdx) (s : State) : Host.Outcome State Fault Refusal :=
  (runPseudo (.pRol rd rs rt) s).outcome

/-- The meaning of `rol rd, rs, k  (k constant)` (R166). -/
def execPRolConst (rd : RegIdx) (rs : RegIdx) (k : Word) (s : State) : Host.Outcome State Fault Refusal :=
  (runPseudo (.pRolConst rd rs k) s).outcome

/-- The meaning of `ror rd, rs, rt` (R167). -/
def execPRor (rd : RegIdx) (rs : RegIdx) (rt : RegIdx) (s : State) : Host.Outcome State Fault Refusal :=
  (runPseudo (.pRor rd rs rt) s).outcome

/-- The meaning of `ror rd, rs, k  (k constant)` (R167). -/
def execPRorConst (rd : RegIdx) (rs : RegIdx) (k : Word) (s : State) : Host.Outcome State Fault Refusal :=
  (runPseudo (.pRorConst rd rs k) s).outcome

/-- The meaning of `li rd, k` (R200). -/
def execPLi (rd : RegIdx) (k : Word) (s : State) : Host.Outcome State Fault Refusal :=
  (runPseudo (.pLi rd k) s).outcome

/-- The meaning of `seq rd, rs, rt` (R202). -/
def execPSeq (rd : RegIdx) (rs : RegIdx) (src : Src2) (s : State) : Host.Outcome State Fault Refusal :=
  (runPseudo (.pSeq rd rs src) s).outcome

/-- The meaning of `sge rd, rs, rt` (R203). -/
def execPSge (rd : RegIdx) (rs : RegIdx) (src : Src2) (s : State) : Host.Outcome State Fault Refusal :=
  (runPseudo (.pSge rd rs src) s).outcome

/-- The meaning of `sgeu rd, rs, rt` (R204). -/
def execPSgeu (rd : RegIdx) (rs : RegIdx) (src : Src2) (s : State) : Host.Outcome State Fault Refusal :=
  (runPseudo (.pSgeu rd rs src) s).outcome

/-- The meaning of `sgt rd, rs, rt` (R205). -/
def execPSgt (rd : RegIdx) (rs : RegIdx) (src : Src2) (s : State) : Host.Outcome State Fault Refusal :=
  (runPseudo (.pSgt rd rs src) s).outcome

/-- The meaning of `sgtu rd, rs, rt` (R206). -/
def execPSgtu (rd : RegIdx) (rs : RegIdx) (src : Src2) (s : State) : Host.Outcome State Fault Refusal :=
  (runPseudo (.pSgtu rd rs src) s).outcome

/-- The meaning of `sle rd, rs, rt` (R207). -/
def execPSle (rd : RegIdx) (rs : RegIdx) (src : Src2) (s : State) : Host.Outcome State Fault Refusal :=
  (runPseudo (.pSle rd rs src) s).outcome

/-- The meaning of `sleu rd, rs, rt` (R208). -/
def execPSleu (rd : RegIdx) (rs : RegIdx) (src : Src2) (s : State) : Host.Outcome State Fault Refusal :=
  (runPseudo (.pSleu rd rs src) s).outcome

/-- The meaning of `sne rd, rs, rt` (R213). -/
def execPSne (rd : RegIdx) (rs : RegIdx) (src : Src2) (s : State) : Host.Outcome State Fault Refusal :=
  (runPseudo (.pSne rd rs src) s).outcome

/-- The meaning of `b label` (R233). -/
def execPB (off : Half) (s : State) : Host.Outcome State Fault Refusal :=
  (runPseudo (.pB off) s).outcome

/-- The meaning of `beqz rs, label` (R237). -/
def execPBeqz (rs : RegIdx) (off : Half) (s : State) : Host.Outcome State Fault Refusal :=
  (runPseudo (.pBeqz rs off) s).outcome

/-- The meaning of `bge rs, rt, label` (R238). -/
def execPBge (rs : RegIdx) (src : Src2) (off : Half) (s : State) : Host.Outcome State Fault Refusal :=
  (runPseudo (.pBge rs src off) s).outcome

/-- The meaning of `bgeu rs, rt, label` (R239). -/
def execPBgeu (rs : RegIdx) (src : Src2) (off : Half) (s : State) : Host.Outcome State Fault Refusal :=
  (runPseudo (.pBgeu rs src off) s).outcome

/-- The meaning of `bgt rs, rt, label` (R242). -/
def execPBgt (rs : RegIdx) (src : Src2) (off : Half) (s : State) : Host.Outcome State Fault Refusal :=
  (runPseudo (.pBgt rs src off) s).outcome

/-- The meaning of `bgtu rs, rt, label` (R243). -/
def execPBgtu (rs : RegIdx) (src : Src2) (off : Half) (s : State) : Host.Outcome State Fault Refusal :=
  (runPseudo (.pBgtu rs src off) s).outcome

/-- The meaning of `ble rs, rt, label` (R245). -/
def execPBle (rs : RegIdx) (src : Src2) (off : Half) (s : State) : Host.Outcome State Fault Refusal :=
  (runPseudo (.pBle rs src off) s).outcome

/-- The meaning of `bleu rs, rt, label` (R246). -/
def execPBleu (rs : RegIdx) (src : Src2) (off : Half) (s : State) : Host.Outcome State Fault Refusal :=
  (runPseudo (.pBleu rs src off) s).outcome

/-- The meaning of `blt rs, rt, label` (R249). -/
def execPBlt (rs : RegIdx) (src : Src2) (off : Half) (s : State) : Host.Outcome State Fault Refusal :=
  (runPseudo (.pBlt rs src off) s).outcome

/-- The meaning of `bltu rs, rt, label` (R250). -/
def execPBltu (rs : RegIdx) (src : Src2) (off : Half) (s : State) : Host.Outcome State Fault Refusal :=
  (runPseudo (.pBltu rs src off) s).outcome

/-- The meaning of `bnez rs, label` (R253). -/
def execPBnez (rs : RegIdx) (off : Half) (s : State) : Host.Outcome State Fault Refusal :=
  (runPseudo (.pBnez rs off) s).outcome

/-- The meaning of `la rd, address` (R282). -/
def execPLa (rd : RegIdx) (addr : Address) (s : State) : Host.Outcome State Fault Refusal :=
  (runPseudo (.pLa rd addr) s).outcome

/-- The meaning of `ld rd, k(r)` (R285). -/
def execPLd (rd : RegIdx) (k : Half) (base : RegIdx) (s : State) : Host.Outcome State Fault Refusal :=
  (runPseudo (.pLd rd k base) s).outcome

/-- The meaning of `ulh rd, k(r)` (R292). -/
def execPUlh (rd : RegIdx) (k : Half) (base : RegIdx) (s : State) : Host.Outcome State Fault Refusal :=
  (runPseudo (.pUlh rd k base) s).outcome

/-- The meaning of `ulhu rd, k(r)` (R293). -/
def execPUlhu (rd : RegIdx) (k : Half) (base : RegIdx) (s : State) : Host.Outcome State Fault Refusal :=
  (runPseudo (.pUlhu rd k base) s).outcome

/-- The meaning of `ulw rd, k(r)` (R294). -/
def execPUlw (rd : RegIdx) (k : Half) (base : RegIdx) (s : State) : Host.Outcome State Fault Refusal :=
  (runPseudo (.pUlw rd k base) s).outcome

/-- The meaning of `sd rs, k(r)` (R312). -/
def execPSd (rs : RegIdx) (k : Half) (base : RegIdx) (s : State) : Host.Outcome State Fault Refusal :=
  (runPseudo (.pSd rs k base) s).outcome

/-- The meaning of `ush rs, k(r)` (R318). -/
def execPUsh (rs : RegIdx) (k : Half) (base : RegIdx) (s : State) : Host.Outcome State Fault Refusal :=
  (runPseudo (.pUsh rs k base) s).outcome

/-- The meaning of `usw rs, k(r)` (R319). -/
def execPUsw (rs : RegIdx) (k : Half) (base : RegIdx) (s : State) : Host.Outcome State Fault Refusal :=
  (runPseudo (.pUsw rs k base) s).outcome

/-- The meaning of `move rd, rs` (R330). -/
def execPMove (rd : RegIdx) (rs : RegIdx) (s : State) : Host.Outcome State Fault Refusal :=
  (runPseudo (.pMove rd rs) s).outcome

/-- The meaning of `mfc1.d rd, fs` (R336). -/
def execPMfc1D (rd : RegIdx) (fs : RegIdx) (s : State) : Host.Outcome State Fault Refusal :=
  (runPseudo (.pMfc1D rd fs) s).outcome

/-- The meaning of `l.d fd, k(r)` (R371). -/
def execPLoadD (fd : RegIdx) (k : Half) (base : RegIdx) (s : State) : Host.Outcome State Fault Refusal :=
  (runPseudo (.pLoadD fd k base) s).outcome

/-- The meaning of `l.s fd, address` (R372). -/
def execPLoadS (fd : RegIdx) (addr : Address) (s : State) : Host.Outcome State Fault Refusal :=
  (runPseudo (.pLoadS fd addr) s).outcome

/-- The meaning of `s.d fs, k(r)` (R379). -/
def execPStoreD (fs : RegIdx) (k : Half) (base : RegIdx) (s : State) : Host.Outcome State Fault Refusal :=
  (runPseudo (.pStoreD fs k base) s).outcome

/-- The meaning of `s.s fs, address` (R380). -/
def execPStoreS (fs : RegIdx) (addr : Address) (s : State) : Host.Outcome State Fault Refusal :=
  (runPseudo (.pStoreS fs addr) s).outcome

/-- The meaning of `nop` (R403). -/
def execPNop (s : State) : Host.Outcome State Fault Refusal :=
  (runPseudo .pNop s).outcome

end Sys2Proof.Machine
end

