-- ==== Sys2Proof/Machine/Dispatch.lean ====
section
/-! DEFINITION. The meaning of every instruction: one arm per constructor of Instr. -/

namespace Sys2Proof.Machine

/-- What executing an instruction does in a state. -/
def exec (i : Instr) (s : State) : Host.Outcome State Fault Refusal :=
  match i with
  | .sll rd rt shamt => Sys2Proof.Machine.execSll rd rt shamt s
  | .srl rd rt shamt => Sys2Proof.Machine.execSrl rd rt shamt s
  | .sra rd rt shamt => Sys2Proof.Machine.execSra rd rt shamt s
  | .sllv rd rt rs => Sys2Proof.Machine.execSllv rd rt rs s
  | .srlv rd rt rs => Sys2Proof.Machine.execSrlv rd rt rs s
  | .srav rd rt rs => Sys2Proof.Machine.execSrav rd rt rs s
  | .jr rs => Sys2Proof.Machine.execJr rs s
  | .jalr rd rs => Sys2Proof.Machine.execJalr rd rs s
  | .syscall code => Sys2Proof.Machine.execSyscall code s
  | .brk code => Sys2Proof.Machine.execBrk code s
  | .mfhi rd => Sys2Proof.Machine.execMfhi rd s
  | .mthi rs => Sys2Proof.Machine.execMthi rs s
  | .mflo rd => Sys2Proof.Machine.execMflo rd s
  | .mtlo rs => Sys2Proof.Machine.execMtlo rs s
  | .mult rs rt => Sys2Proof.Machine.execMult rs rt s
  | .multu rs rt => Sys2Proof.Machine.execMultu rs rt s
  | .div rs rt => Sys2Proof.Machine.execDiv rs rt s
  | .divu rs rt => Sys2Proof.Machine.execDivu rs rt s
  | .add rd rs rt => Sys2Proof.Machine.execAdd rd rs rt s
  | .addu rd rs rt => Sys2Proof.Machine.execAddu rd rs rt s
  | .sub rd rs rt => Sys2Proof.Machine.execSub rd rs rt s
  | .subu rd rs rt => Sys2Proof.Machine.execSubu rd rs rt s
  | .and rd rs rt => Sys2Proof.Machine.execAnd rd rs rt s
  | .or rd rs rt => Sys2Proof.Machine.execOr rd rs rt s
  | .xor rd rs rt => Sys2Proof.Machine.execXor rd rs rt s
  | .nor rd rs rt => Sys2Proof.Machine.execNor rd rs rt s
  | .slt rd rs rt => Sys2Proof.Machine.execSlt rd rs rt s
  | .sltu rd rs rt => Sys2Proof.Machine.execSltu rd rs rt s
  | .bltz rs imm => Sys2Proof.Machine.execBltz rs imm s
  | .bgez rs imm => Sys2Proof.Machine.execBgez rs imm s
  | .bltzal rs imm => Sys2Proof.Machine.execBltzal rs imm s
  | .bgezal rs imm => Sys2Proof.Machine.execBgezal rs imm s
  | .j target => Sys2Proof.Machine.execJ target s
  | .jal target => Sys2Proof.Machine.execJal target s
  | .beq rs rt imm => Sys2Proof.Machine.execBeq rs rt imm s
  | .bne rs rt imm => Sys2Proof.Machine.execBne rs rt imm s
  | .blez rs imm => Sys2Proof.Machine.execBlez rs imm s
  | .bgtz rs imm => Sys2Proof.Machine.execBgtz rs imm s
  | .addi rt rs imm => Sys2Proof.Machine.execAddi rt rs imm s
  | .addiu rt rs imm => Sys2Proof.Machine.execAddiu rt rs imm s
  | .slti rt rs imm => Sys2Proof.Machine.execSlti rt rs imm s
  | .sltiu rt rs imm => Sys2Proof.Machine.execSltiu rt rs imm s
  | .andi rt rs imm => Sys2Proof.Machine.execAndi rt rs imm s
  | .ori rt rs imm => Sys2Proof.Machine.execOri rt rs imm s
  | .xori rt rs imm => Sys2Proof.Machine.execXori rt rs imm s
  | .lui rt imm => Sys2Proof.Machine.execLui rt imm s
  | .mfc0 rt rd => Sys2Proof.Machine.execMfc0 rt rd s
  | .mfc1 rt rd => Sys2Proof.Machine.execMfc1 rt rd s
  | .mfc2 rt rd => Sys2Proof.Machine.execMfc2 rt rd s
  | .mfc3 rt rd => Sys2Proof.Machine.execMfc3 rt rd s
  | .mtc0 rt rd => Sys2Proof.Machine.execMtc0 rt rd s
  | .mtc1 rt rd => Sys2Proof.Machine.execMtc1 rt rd s
  | .mtc2 rt rd => Sys2Proof.Machine.execMtc2 rt rd s
  | .mtc3 rt rd => Sys2Proof.Machine.execMtc3 rt rd s
  | .bc0f imm => Sys2Proof.Machine.execBc0f imm s
  | .bc1f imm => Sys2Proof.Machine.execBc1f imm s
  | .bc2f imm => Sys2Proof.Machine.execBc2f imm s
  | .bc3f imm => Sys2Proof.Machine.execBc3f imm s
  | .bc0t imm => Sys2Proof.Machine.execBc0t imm s
  | .bc1t imm => Sys2Proof.Machine.execBc1t imm s
  | .bc2t imm => Sys2Proof.Machine.execBc2t imm s
  | .bc3t imm => Sys2Proof.Machine.execBc3t imm s
  | .rfe => Sys2Proof.Machine.execRfe s
  | .addD fd fs ft => Sys2Proof.Machine.execAddD fd fs ft s
  | .addS fd fs ft => Sys2Proof.Machine.execAddS fd fs ft s
  | .subD fd fs ft => Sys2Proof.Machine.execSubD fd fs ft s
  | .subS fd fs ft => Sys2Proof.Machine.execSubS fd fs ft s
  | .mulD fd fs ft => Sys2Proof.Machine.execMulD fd fs ft s
  | .mulS fd fs ft => Sys2Proof.Machine.execMulS fd fs ft s
  | .divD fd fs ft => Sys2Proof.Machine.execDivD fd fs ft s
  | .divS fd fs ft => Sys2Proof.Machine.execDivS fd fs ft s
  | .absD fd fs => Sys2Proof.Machine.execAbsD fd fs s
  | .absS fd fs => Sys2Proof.Machine.execAbsS fd fs s
  | .movD fd fs => Sys2Proof.Machine.execMovD fd fs s
  | .movS fd fs => Sys2Proof.Machine.execMovS fd fs s
  | .negD fd fs => Sys2Proof.Machine.execNegD fd fs s
  | .negS fd fs => Sys2Proof.Machine.execNegS fd fs s
  | .cvtDS fd fs => Sys2Proof.Machine.execCvtDS fd fs s
  | .cvtDW fd fs => Sys2Proof.Machine.execCvtDW fd fs s
  | .cvtSD fd fs => Sys2Proof.Machine.execCvtSD fd fs s
  | .cvtSW fd fs => Sys2Proof.Machine.execCvtSW fd fs s
  | .cvtWD fd fs => Sys2Proof.Machine.execCvtWD fd fs s
  | .cvtWS fd fs => Sys2Proof.Machine.execCvtWS fd fs s
  | .cEqD fs ft => Sys2Proof.Machine.execCEqD fs ft s
  | .cEqS fs ft => Sys2Proof.Machine.execCEqS fs ft s
  | .cLeD fs ft => Sys2Proof.Machine.execCLeD fs ft s
  | .cLeS fs ft => Sys2Proof.Machine.execCLeS fs ft s
  | .cLtD fs ft => Sys2Proof.Machine.execCLtD fs ft s
  | .cLtS fs ft => Sys2Proof.Machine.execCLtS fs ft s
  | .lb rt imm rs => Sys2Proof.Machine.execLb rt imm rs s
  | .lh rt imm rs => Sys2Proof.Machine.execLh rt imm rs s
  | .lwl rt imm rs => Sys2Proof.Machine.execLwl rt imm rs s
  | .lw rt imm rs => Sys2Proof.Machine.execLw rt imm rs s
  | .lbu rt imm rs => Sys2Proof.Machine.execLbu rt imm rs s
  | .lhu rt imm rs => Sys2Proof.Machine.execLhu rt imm rs s
  | .lwr rt imm rs => Sys2Proof.Machine.execLwr rt imm rs s
  | .sb rt imm rs => Sys2Proof.Machine.execSb rt imm rs s
  | .sh rt imm rs => Sys2Proof.Machine.execSh rt imm rs s
  | .swl rt imm rs => Sys2Proof.Machine.execSwl rt imm rs s
  | .sw rt imm rs => Sys2Proof.Machine.execSw rt imm rs s
  | .swr rt imm rs => Sys2Proof.Machine.execSwr rt imm rs s
  | .lwc0 rt imm rs => Sys2Proof.Machine.execLwc0 rt imm rs s
  | .lwc1 rt imm rs => Sys2Proof.Machine.execLwc1 rt imm rs s
  | .lwc2 rt imm rs => Sys2Proof.Machine.execLwc2 rt imm rs s
  | .lwc3 rt imm rs => Sys2Proof.Machine.execLwc3 rt imm rs s
  | .swc0 rt imm rs => Sys2Proof.Machine.execSwc0 rt imm rs s
  | .swc1 rt imm rs => Sys2Proof.Machine.execSwc1 rt imm rs s
  | .swc2 rt imm rs => Sys2Proof.Machine.execSwc2 rt imm rs s
  | .swc3 rt imm rs => Sys2Proof.Machine.execSwc3 rt imm rs s
  | .pAbs rd rs => Sys2Proof.Machine.execPAbs rd rs s
  | .pDiv rd rs src => Sys2Proof.Machine.execPDiv rd rs src s
  | .pDivu rd rs src => Sys2Proof.Machine.execPDivu rd rs src s
  | .pMul rd rs src => Sys2Proof.Machine.execPMul rd rs src s
  | .pMulo rd rs src => Sys2Proof.Machine.execPMulo rd rs src s
  | .pMulou rd rs src => Sys2Proof.Machine.execPMulou rd rs src s
  | .pNeg rd rs => Sys2Proof.Machine.execPNeg rd rs s
  | .pNegu rd rs => Sys2Proof.Machine.execPNegu rd rs s
  | .pNot rd rs => Sys2Proof.Machine.execPNot rd rs s
  | .pRem rd rs src => Sys2Proof.Machine.execPRem rd rs src s
  | .pRemu rd rs src => Sys2Proof.Machine.execPRemu rd rs src s
  | .pRol rd rs rt => Sys2Proof.Machine.execPRol rd rs rt s
  | .pRolConst rd rs k => Sys2Proof.Machine.execPRolConst rd rs k s
  | .pRor rd rs rt => Sys2Proof.Machine.execPRor rd rs rt s
  | .pRorConst rd rs k => Sys2Proof.Machine.execPRorConst rd rs k s
  | .pLi rd k => Sys2Proof.Machine.execPLi rd k s
  | .pSeq rd rs src => Sys2Proof.Machine.execPSeq rd rs src s
  | .pSge rd rs src => Sys2Proof.Machine.execPSge rd rs src s
  | .pSgeu rd rs src => Sys2Proof.Machine.execPSgeu rd rs src s
  | .pSgt rd rs src => Sys2Proof.Machine.execPSgt rd rs src s
  | .pSgtu rd rs src => Sys2Proof.Machine.execPSgtu rd rs src s
  | .pSle rd rs src => Sys2Proof.Machine.execPSle rd rs src s
  | .pSleu rd rs src => Sys2Proof.Machine.execPSleu rd rs src s
  | .pSne rd rs src => Sys2Proof.Machine.execPSne rd rs src s
  | .pB off => Sys2Proof.Machine.execPB off s
  | .pBeqz rs off => Sys2Proof.Machine.execPBeqz rs off s
  | .pBge rs src off => Sys2Proof.Machine.execPBge rs src off s
  | .pBgeu rs src off => Sys2Proof.Machine.execPBgeu rs src off s
  | .pBgt rs src off => Sys2Proof.Machine.execPBgt rs src off s
  | .pBgtu rs src off => Sys2Proof.Machine.execPBgtu rs src off s
  | .pBle rs src off => Sys2Proof.Machine.execPBle rs src off s
  | .pBleu rs src off => Sys2Proof.Machine.execPBleu rs src off s
  | .pBlt rs src off => Sys2Proof.Machine.execPBlt rs src off s
  | .pBltu rs src off => Sys2Proof.Machine.execPBltu rs src off s
  | .pBnez rs off => Sys2Proof.Machine.execPBnez rs off s
  | .pLa rd addr => Sys2Proof.Machine.execPLa rd addr s
  | .pLd rd k base => Sys2Proof.Machine.execPLd rd k base s
  | .pUlh rd k base => Sys2Proof.Machine.execPUlh rd k base s
  | .pUlhu rd k base => Sys2Proof.Machine.execPUlhu rd k base s
  | .pUlw rd k base => Sys2Proof.Machine.execPUlw rd k base s
  | .pSd rs k base => Sys2Proof.Machine.execPSd rs k base s
  | .pUsh rs k base => Sys2Proof.Machine.execPUsh rs k base s
  | .pUsw rs k base => Sys2Proof.Machine.execPUsw rs k base s
  | .pMove rd rs => Sys2Proof.Machine.execPMove rd rs s
  | .pMfc1D rd fs => Sys2Proof.Machine.execPMfc1D rd fs s
  | .pLoadD fd k base => Sys2Proof.Machine.execPLoadD fd k base s
  | .pLoadS fd addr => Sys2Proof.Machine.execPLoadS fd addr s
  | .pStoreD fs k base => Sys2Proof.Machine.execPStoreD fs k base s
  | .pStoreS fs addr => Sys2Proof.Machine.execPStoreS fs addr s
  | .pNop => Sys2Proof.Machine.execPNop s

end Sys2Proof.Machine
end

