-- ==== Sys2Proof/Machine/Fetch.lean ====
section
/-! DEFINITION. What a step does before it executes an instruction: sampling the interrupt lines, taking an
interrupt, fetching the word at `pc` and decoding it (10_state.md R31, 20_memory.md R70, 60_exceptions.md
R430 to R432); and placing a word where the next step fetches it. -/

namespace Sys2Proof.Machine

/-- The request lines of the coming step: the head of the schedule, none after its end (R430). -/
def State.nextLines (s : State) : BitVec 5 :=
  match s.intSchedule with
  | [] => 0#5
  | lines :: _ => lines

/-- `Cause.IP[L] = IntInput(L)` from the start of the step on (R430). -/
def State.sampleInterrupts (s : State) : State :=
  { s with intLines := s.nextLines, intSchedule := s.intSchedule.drop 1 }

/-- Whether an interrupt is taken before the fetch: `IEc`, and a pending level that `IM` allows (R432); not
between a branch and its delay slot (R471 e). -/
def State.interruptTaken (s : State) : Bool :=
  !s.inDelaySlot && s.status.getLsbD 0 && (s.status &&& spreadLevels s.params s.intLines != 0#32)

/-- The exception of the fetch at `pc`, if any: alignment, `ENFORCE_KUSEG`, `MemMap` (R70, R421). -/
def State.fetchFault (s : State) : Option Exc :=
  if !aligned4 s.pc then some .addrl
  else if s.kusegDenies s.pc then some .addrl
  else if (wordSpan s.pc).all s.mapped then none
  else some .ibus

/-- Whether the fetch reads a byte that the program has stored and fetches do not see stores (R82). -/
def State.fetchStale (s : State) : Bool :=
  !s.params.fetchSeesStores && (wordSpan s.pc).any fun a => s.storedBytes.contains a.toNat

/-- What a step has before it executes: an instruction and the state it executes in, an exception already
taken, or a refusal. -/
inductive Fetched where
  | ready (i : Instr) (s : State)
  | trapped (s : State)
  | refused (r : Refusal)
  deriving DecidableEq, Repr

/-- Decoding the word fetched: a reserved instruction raises RI (R112, R419); the words of R113 are refused. -/
def State.decoded (s : State) (w : Word) : Fetched :=
  match decodeWord w with
  | .instr i => .ready i s
  | .reserved => .trapped (s.trapEntry .ri 0#32)
  | .unlisted => .refused .unlistedInstruction
  | .mustBeZero => .refused .mustBeZeroBits

/-- Parts 1 to 3 of a step (R31): the interrupt, the fetch, the decoding. -/
def State.fetch (s : State) : Fetched :=
  let t := s.sampleInterrupts
  if t.interruptTaken then .trapped (t.trapEntry .int 0#32)
  else
    match t.fetchFault with
    | some e => .trapped (t.trapEntry e t.pc)
    | none => if t.fetchStale then .refused .fetchOfStoredByte else t.decoded (t.word t.pc)

/-- The word placed at `pc` as part of the image (R462): its four bytes are no stores of the program, and no
interrupt request comes with the next step where it would be taken. -/
def State.placeWord (s : State) (w : Word) : State :=
  { s with
    mem := Memory.putAll s.mem (wordBytes s.params.bigEndian s.pc w)
    storedBytes := s.storedBytes.filter fun a => !(wordSpan s.pc).any fun b => b.toNat == a
    intSchedule :=
      if s.sampleInterrupts.interruptTaken then 0#5 :: s.intSchedule.drop 1 else s.intSchedule }

end Sys2Proof.Machine
end

