-- ==== Sys2Proof/Machine/Step.lean ====
section
/-! DEFINITION. One step of the machine: the fetch, then the instruction (10_state.md R31). -/

namespace Sys2Proof.Machine

/-- One step: an interrupt or the exception of the fetch is a step of its own; else the instruction fetched is
executed (R31). -/
def step (s : State) : Host.Outcome State Fault Refusal :=
  match s.fetch with
  | .ready i t => exec i t
  | .trapped t => .next t
  | .refused r => .refused r

/-- `s` with the table's word `w` stored where the next step fetches. Every instruction is 32 bits (R100). -/
def State.withFetchWord (s : State) (nbits w : Nat) : State :=
  s.placeWord (BitVec.ofNat 32 (w % 2 ^ nbits))

end Sys2Proof.Machine
end

