-- ==== Sys2Proof/Safety.lean ====
section
/-! DEFINITION. The terms that statements about the machine use: the invariant of its states, what a step
leaves alone, how an instruction completes and how it traps. -/

namespace Sys2Proof.Machine

/-- What holds in every state that a run from reset reaches: memory in its canonical form, register 0 holding
0 (R21), nothing stored in the bits of `Status` that no text describes (R36), an exception code of R39, and
none of the state that only a delay slot or a fetch that misses stores would need (R44, R82). -/
structure State.Inv (s : State) : Prop where
  memory : Memory.wf s.mem = true
  zero : readSlot s.gpr 0#5 = 0#32
  statusBits : s.status &&& ~~~statusDescribed s.params = 0#32
  excCode : s.excCode ∈ [0#4, 4#4, 5#4, 6#4, 7#4, 8#4, 9#4, 10#4, 12#4]
  noBranchSlot : s.params.branchDelaySlot = false → s.pendingTarget = none ∧ s.bd = false
  noLoadSlot : s.params.loadDelaySlot = false → s.loadPending = none
  noStoredBytes : s.params.fetchSeesStores = true → s.storedBytes = []

/-! What is left alone. -/

/-- Every general register holds what it held. -/
def SameGpr (s t : State) : Prop := ∀ r, readSlot t.gpr r = readSlot s.gpr r

/-- `hi` and `lo` hold what they held. -/
def SameHiLo (s t : State) : Prop := t.hi = s.hi ∧ t.lo = s.lo

/-- Every floating point register and the condition flag hold what they held. -/
def SameFp (s t : State) : Prop := (∀ r, readSlot t.fpr r = readSlot s.fpr r) ∧ t.cc1 = s.cc1

/-- Every byte of memory reads as before, and no address counts as stored to that did not. -/
def SameMemory (s t : State) : Prop := (∀ a, t.byte a = s.byte a) ∧ t.storedBytes = s.storedBytes

/-- The addresses of `stored` count as stored to from now on where a later fetch may miss a store, and no other that did
not; where a fetch sees stores nothing is remembered (R82). -/
def Remembers (s t : State) (stored : Word → Prop) : Prop :=
  (s.params.fetchSeesStores = true → t.storedBytes = s.storedBytes) ∧
    (s.params.fetchSeesStores = false →
      ∀ n : Nat, n ∈ t.storedBytes ↔ n ∈ s.storedBytes ∨ ∃ p : Word, p.toNat = n ∧ stored p)

/-- The registers of coprocessor 0, the parameters and the environment's input are as before. -/
def SameSystem (s t : State) : Prop :=
  t.params = s.params ∧ t.status = s.status ∧ t.excCode = s.excCode ∧ t.bd = s.bd ∧ t.epc = s.epc ∧
    t.badVAddr = s.badVAddr ∧ t.intLines = s.intLines ∧ t.intSchedule = s.intSchedule

/-- One general register is written, unless it is register 0, and no other (R21). -/
def GprWritten (s t : State) (rd : RegIdx) (v : Word) : Prop :=
  ∀ r, readSlot t.gpr r = if r = rd ∧ r ≠ 0#5 then v else readSlot s.gpr r

/-- Only `rd` and, where `usesAt` holds, `$at` may be written; `rd` holds `v` unless it is register 0. -/
def GprWrittenAt (s t : State) (rd : RegIdx) (v : Word) (usesAt : Bool) : Prop :=
  (rd ≠ 0#5 → readSlot t.gpr rd = v) ∧
    ∀ r, (r = 0#5 ∨ (r ≠ rd ∧ (usesAt = true → r ≠ regAt))) → readSlot t.gpr r = readSlot s.gpr r

/-- One floating point register is written and no other. -/
def FprWritten (s t : State) (fd : RegIdx) (v : Word) : Prop :=
  ∀ r, readSlot t.fpr r = if r = fd then v else readSlot s.fpr r

/-- The pair `fd(r)` is written and no other floating point register. -/
def FprPairWritten (s t : State) (fd : RegIdx) (v : DWord) : Prop :=
  ∀ r, readSlot t.fpr r =
    if r = fd then v.extractLsb' 0 32
    else if r = fd + 1#5 then v.extractLsb' 32 32
    else readSlot s.fpr r

/-! How an instruction ends. -/

/-- Control goes on after an instruction that assigns no `pc` (R31, R471 b). -/
def GoesOn (s t : State) : Prop :=
  t.pendingTarget = none ∧
    t.pc = if s.params.branchDelaySlot = true then s.pendingTarget.getD (s.pc + 4#32) else s.pc + 4#32

/-- The instruction completes and writes one general register, nothing else. -/
def WritesGpr (o : Host.Outcome State Fault Refusal) (s : State) (rd : RegIdx) (v : Word) : Prop :=
  ∃ t, o = .next t ∧ GprWritten s t rd v ∧ SameHiLo s t ∧ SameFp s t ∧ SameMemory s t ∧ SameSystem s t ∧
    GoesOn s t ∧ t.loadPending = none

/-- The instruction completes and writes `hi` and `lo`, nothing else. -/
def WritesHiLo (o : Host.Outcome State Fault Refusal) (s : State) (p : Word → Word → Prop) : Prop :=
  ∃ t, o = .next t ∧ p t.hi t.lo ∧ SameGpr s t ∧ SameFp s t ∧ SameMemory s t ∧ SameSystem s t ∧
    GoesOn s t ∧ t.loadPending = none

/-- The instruction completes, loading one general register; where there are load delay slots the register is
in its delay (R472). -/
def LoadsGpr (o : Host.Outcome State Fault Refusal) (s : State) (rd : RegIdx) (v : Word) (partialWord : Bool) :
    Prop :=
  ∃ t, o = .next t ∧ GprWritten s t rd v ∧ SameHiLo s t ∧ SameFp s t ∧ SameMemory s t ∧ SameSystem s t ∧
    GoesOn s t ∧
    t.loadPending = if s.params.loadDelaySlot = true then some (.gpr rd partialWord) else none

/-- The instruction completes, storing to memory only: every stored byte is given by `stored` and remembered as one
(R82), every other byte reads as before. -/
def StoresBytes (o : Host.Outcome State Fault Refusal) (s : State) (stored : Word → Option Byte) : Prop :=
  ∃ t, o = .next t ∧ (∀ a, t.byte a = (stored a).getD (s.byte a)) ∧
    Remembers s t (fun a => (stored a).isSome = true) ∧ SameGpr s t ∧ SameHiLo s t ∧
    SameFp s t ∧ SameSystem s t ∧ GoesOn s t ∧ t.loadPending = none

/-- The instruction traps: trap entry as R425 describes it, with R471 d in a delay slot, and nothing else
changes; a load in its delay stays in it, for the handler's first instruction (R472; notes/assumptions 15). -/
def Traps (o : Host.Outcome State Fault Refusal) (s : State) (code : BitVec 4) (badVAddr : Word) : Prop :=
  ∃ t, o = .next t ∧ t.excCode = code ∧ t.badVAddr = badVAddr ∧ t.pc = s.params.excVector ∧
    t.epc = (if s.inDelaySlot = true then s.pc - 4#32 else s.pc) ∧ t.bd = s.inDelaySlot ∧
    (∀ i : Nat, t.status.getLsbD i =
      if i < 2 then false else if i < 6 then s.status.getLsbD (i - 2) else s.status.getLsbD i) ∧
    SameGpr s t ∧ SameHiLo s t ∧ SameFp s t ∧ SameMemory s t ∧ t.params = s.params ∧
    t.intLines = s.intLines ∧ t.intSchedule = s.intSchedule ∧ t.pendingTarget = none ∧
    t.loadPending = s.loadPending

/-- The instruction that `f` makes of its destination computes with register 0 there as with any register, and takes
the same exception or stop; of what it leaves behind only the general registers differ, which are as before, and
the register of a load in its delay (R21). -/
def Discards (f : RegIdx → Instr) (s : State) : Prop :=
  ∀ rd, match exec (f rd) s with
    | .next t => ∃ u, exec (f 0#5) s = .next u ∧ SameGpr s u ∧
        { u with gpr := t.gpr, loadPending := t.loadPending } = t
    | o => exec (f 0#5) s = o

/-- The branch or jump completes (R231, R471 a); `link` is the register it writes with the address of the next
instruction, if any (R260). -/
def Branches (o : Host.Outcome State Fault Refusal) (s : State) (taken : Bool) (target : Word)
    (link : Option RegIdx) : Prop :=
  ∃ t, o = .next t ∧
    (s.params.branchDelaySlot = false →
      t.pc = (if taken then target else s.pc + 4#32) ∧ t.pendingTarget = none) ∧
    (s.params.branchDelaySlot = true →
      t.pc = s.pc + 4#32 ∧ t.pendingTarget = some (if taken then target else s.pc + 8#32)) ∧
    (match link with
      | none => SameGpr s t
      | some rd => GprWritten s t rd (if s.params.branchDelaySlot = true then s.pc + 8#32 else s.pc + 4#32)) ∧
    SameHiLo s t ∧ SameFp s t ∧ SameMemory s t ∧ SameSystem s t ∧ t.loadPending = none

/-- The floating point instruction completes, writing floating point registers as `written` says. -/
def WritesFp (o : Host.Outcome State Fault Refusal) (s : State) (written : State → Prop) : Prop :=
  ∃ t, o = .next t ∧ written t ∧ t.cc1 = s.cc1 ∧ SameGpr s t ∧ SameHiLo s t ∧ SameMemory s t ∧
    SameSystem s t ∧ GoesOn s t ∧ t.loadPending = none

/-- The instruction completes, writing the condition flag and nothing else. -/
def SetsFlag (o : Host.Outcome State Fault Refusal) (s : State) (c : Bool) : Prop :=
  ∃ t, o = .next t ∧ t.cc1 = c ∧ (∀ r, readSlot t.fpr r = readSlot s.fpr r) ∧ SameGpr s t ∧ SameHiLo s t ∧
    SameMemory s t ∧ SameSystem s t ∧ GoesOn s t ∧ t.loadPending = none

/-- The instruction completes, writing one floating point register from outside the coprocessor; where there are
load delay slots the register is in its delay (R472). -/
def LoadsFpr (o : Host.Outcome State Fault Refusal) (s : State) (fd : RegIdx) (v : Word) : Prop :=
  ∃ t, o = .next t ∧ FprWritten s t fd v ∧ t.cc1 = s.cc1 ∧ SameGpr s t ∧ SameHiLo s t ∧ SameMemory s t ∧
    SameSystem s t ∧ GoesOn s t ∧
    t.loadPending = if s.params.loadDelaySlot = true then some (.fpr fd) else none

/-- Bit `i` of `Status` is one that the spec describes: the stack or a mask bit (R36). -/
def StatusBit (p : Params) (i : Nat) : Prop := i < 6 ∨ ∃ l : Fin 5, p.intBit[l] = i

/-- The instruction completes, writing `Status` and nothing else: the described bits take those of `v`, the
others stay (R36, R337). -/
def WritesStatus (o : Host.Outcome State Fault Refusal) (s : State) (v : Word) : Prop :=
  ∃ t, o = .next t ∧
    (∀ i : Nat, StatusBit s.params i → t.status.getLsbD i = v.getLsbD i) ∧
    (∀ i : Nat, ¬ StatusBit s.params i → t.status.getLsbD i = s.status.getLsbD i) ∧
    SameGpr s t ∧ SameHiLo s t ∧ SameFp s t ∧ SameMemory s t ∧ t.params = s.params ∧
    t.excCode = s.excCode ∧ t.bd = s.bd ∧ t.epc = s.epc ∧ t.badVAddr = s.badVAddr ∧
    t.intLines = s.intLines ∧ t.intSchedule = s.intSchedule ∧ GoesOn s t ∧ t.loadPending = none

/-! Pseudoinstructions. -/

/-- How many words the assembler emits before a pseudoinstruction to load a constant operand (R118, R200). -/
def constantWords : Src2 → Nat
  | .reg _ => 0
  | .const k => (liWords regAt k).length

/-- Where the word after a pseudoinstruction's expansion lies (R122). -/
def State.afterExpansion (s : State) (i : Instr) : Word :=
  s.pc + BitVec.ofNat 32 (4 * (expand s.params.bigEndian s.params.branchDelaySlot i).length)

/-- The pseudoinstruction completes after its last word: it writes `rd`, `$at` where `usesAt`, and `hi` and `lo`
as `p` says, and nothing else (R121, R122). -/
def PseudoWrites (i : Instr) (s : State) (rd : RegIdx) (v : Word) (usesAt : Bool) (p : Word → Word → Prop) :
    Prop :=
  ∃ t, exec i s = .next t ∧ GprWrittenAt s t rd v usesAt ∧ p t.hi t.lo ∧ SameFp s t ∧ SameMemory s t ∧
    SameSystem s t ∧ t.pc = s.afterExpansion i ∧ t.pendingTarget = none ∧ t.loadPending = none

/-- `hi` and `lo` hold what they held in `s`. -/
def KeepsHiLo (s : State) : Word → Word → Prop := fun h l => h = s.hi ∧ l = s.lo

/-- The branch pseudoinstruction completes: it goes to the label, `off` instructions from the word after its
branch word, which is word number `k` of the expansion, or on after its last word; it writes `$at` where
`usesAt`, and nothing else (R106, R121). -/
def PseudoBranches (i : Instr) (s : State) (taken : Bool) (k : Nat) (off : Half) (usesAt : Bool) : Prop :=
  ∃ t, exec i s = .next t ∧
    t.pc = (if taken then s.pc + BitVec.ofNat 32 (4 * (k + 1)) + BitVec.ofInt 32 (4 * off.toInt)
      else s.afterExpansion i) ∧
    (∀ r, (usesAt = true → r ≠ regAt) → readSlot t.gpr r = readSlot s.gpr r) ∧
    SameHiLo s t ∧ SameFp s t ∧ SameMemory s t ∧ SameSystem s t ∧ t.pendingTarget = none ∧
    t.loadPending = none

/-- The pseudoinstruction ends in an exception, `fault` its code and what `BadVAddr` then holds, at word number `k` of
its expansion (R121 d): trap entry as R425 describes it; `done` says what the words before have left (R121 e, R426). -/
def PseudoFaults (i : Instr) (s : State) (fault : BitVec 4 × Word) (k : Nat) (done : State → Prop) : Prop :=
  ∃ t, exec i s = .next t ∧ t.excCode = fault.1 ∧ t.badVAddr = fault.2 ∧ t.pc = s.params.excVector ∧
    t.epc = s.pc + BitVec.ofNat 32 (4 * k) ∧ t.bd = false ∧
    (∀ n : Nat, t.status.getLsbD n =
      if n < 2 then false else if n < 6 then s.status.getLsbD (n - 2) else s.status.getLsbD n) ∧
    done t ∧ t.params = s.params ∧ t.intLines = s.intLines ∧ t.intSchedule = s.intSchedule ∧
    t.pendingTarget = none

/-- The pseudoinstruction ends at the `break` that is word number `k` of its expansion (R178): of the general registers
only those of `scratch` may have changed, `hi` and `lo` as `p` says, and nothing else. -/
def PseudoBreaks (i : Instr) (s : State) (k : Nat) (scratch : List RegIdx) (p : Word → Word → Prop) : Prop :=
  PseudoFaults i s (9#4, s.badVAddr) k fun t =>
    (∀ r, r ∉ scratch → readSlot t.gpr r = readSlot s.gpr r) ∧ p t.hi t.lo ∧ SameFp s t ∧ SameMemory s t ∧
      t.loadPending = none

/-- The pseudoinstruction loads: it writes the general registers of `written`, and `$at` where `usesAt`, and
nothing else; `delayed` is the load of its last word, if any, in its delay where there are load delay slots (R121,
R285, R292 to R294, R336, R472). -/
def PseudoLoads (i : Instr) (s : State) (written : List (RegIdx × Word)) (usesAt : Bool)
    (delayed : Option LoadPending) : Prop :=
  ∃ t, exec i s = .next t ∧
    (∀ p ∈ written, p.1 ≠ 0#5 → readSlot t.gpr p.1 = p.2) ∧
    (∀ r, (r = 0#5 ∨ ((∀ p ∈ written, p.1 ≠ r) ∧ (usesAt = true → r ≠ regAt))) →
      readSlot t.gpr r = readSlot s.gpr r) ∧
    SameHiLo s t ∧ SameFp s t ∧ SameMemory s t ∧ SameSystem s t ∧ t.pc = s.afterExpansion i ∧
    t.pendingTarget = none ∧ t.loadPending = if s.params.loadDelaySlot = true then delayed else none

/-- The pseudoinstruction loads floating point registers: those of `written`, and `$at` where `usesAt`, and nothing
else; `last` is the register of its last word, in its delay where there are load delay slots (R371, R372, R472). -/
def PseudoLoadsFp (i : Instr) (s : State) (written : List (RegIdx × Word)) (usesAt : Bool) (last : RegIdx) : Prop :=
  ∃ t, exec i s = .next t ∧
    (∀ p ∈ written, readSlot t.fpr p.1 = p.2) ∧
    (∀ r, (∀ p ∈ written, p.1 ≠ r) → readSlot t.fpr r = readSlot s.fpr r) ∧
    (∀ r, (usesAt = true → r ≠ regAt) → readSlot t.gpr r = readSlot s.gpr r) ∧
    SameHiLo s t ∧ t.cc1 = s.cc1 ∧ SameMemory s t ∧ SameSystem s t ∧ t.pc = s.afterExpansion i ∧
    t.pendingTarget = none ∧ t.loadPending = if s.params.loadDelaySlot = true then some (.fpr last) else none

/-- The pseudoinstruction stores: every stored byte is given by `stored` and remembered as one (R82), every other byte
reads as before; of the registers only `$at` changes, as `atAfter` says (R121, R312, R318, R319, R379, R380). -/
def PseudoStores (i : Instr) (s : State) (stored : Word → Option Byte) (atAfter : Word → Prop) : Prop :=
  ∃ t, exec i s = .next t ∧ (∀ a, t.byte a = (stored a).getD (s.byte a)) ∧
    Remembers s t (fun a => (stored a).isSome = true) ∧ (∀ r, r ≠ regAt → readSlot t.gpr r = readSlot s.gpr r) ∧ atAfter (readSlot t.gpr regAt) ∧
    SameHiLo s t ∧ SameFp s t ∧ SameSystem s t ∧ t.pc = s.afterExpansion i ∧ t.pendingTarget = none ∧
    t.loadPending = none

/-- The exception of a word access at `a`, if any, as its code and what `BadVAddr` then holds: the address error for a
misaligned address and for one that `ENFORCE_KUSEG` denies, then DBUS (R68, R76, R77, R421). -/
def State.wordFault (s : State) (addressError : BitVec 4) (a : Word) : Option (BitVec 4 × Word) :=
  if a.toNat % 4 ≠ 0 then some (addressError, a)
  else if s.params.enforceKuseg = true ∧ s.userMode = true ∧ 0x80000000 ≤ a.toNat then some (addressError, a)
  else if ∃ p ∈ wordSpan a, s.mapped p = false then some (7#4, s.badVAddr)
  else none

/-! Words and when an instruction completes. -/

/-- A word of the R format with `op` 0 (R101). -/
def rWord (rs rt rd : RegIdx) (shamt : BitVec 5) (funct : BitVec 6) : Word :=
  0#6 ++ rs ++ rt ++ rd ++ shamt ++ funct

/-- A word of the I format (R102). -/
def iWord (op : BitVec 6) (rs rt : RegIdx) (imm : Half) : Word := op ++ rs ++ rt ++ imm

/-- A data access at `a` that touches `span` passes the checks after alignment: `ENFORCE_KUSEG` and `MemMap`
(R77, R76). -/
def State.CanAccess (s : State) (a : Word) (span : List Word) : Prop :=
  ¬ (s.params.enforceKuseg = true ∧ s.userMode = true ∧ 0x80000000 ≤ a.toNat) ∧
    ∀ p ∈ span, s.mapped p = true

/-- Between instructions with nothing pending: no delay slot to run, no load in its delay (R44). -/
def State.Settled (s : State) : Prop :=
  (s.params.branchDelaySlot = true → s.pendingTarget = none) ∧
    (s.params.loadDelaySlot = true → s.loadPending = none)

/-- The value of a `Src2` operand (R118). -/
def State.srcValue (s : State) : Src2 → Word
  | .reg r => s.x r
  | .const k => k

/-- Where the four bytes of a word stored at `a` lie: byte `k` of memory from `a` on (R66). -/
def storedWord (big : Bool) (a v p : Word) : Option Byte :=
  if p = a then some (if big then v.extractLsb' 24 8 else v.extractLsb' 0 8)
  else if p = a + 1#32 then some (if big then v.extractLsb' 16 8 else v.extractLsb' 8 8)
  else if p = a + 2#32 then some (if big then v.extractLsb' 8 8 else v.extractLsb' 16 8)
  else if p = a + 3#32 then some (if big then v.extractLsb' 0 8 else v.extractLsb' 24 8)
  else none

/-- Where the two bytes of a halfword stored at `a` lie (R66). -/
def storedHalf (big : Bool) (a : Word) (v : Half) (p : Word) : Option Byte :=
  if p = a then some (if big then v.extractLsb' 8 8 else v.extractLsb' 0 8)
  else if p = a + 1#32 then some (if big then v.extractLsb' 0 8 else v.extractLsb' 8 8)
  else none

/-- The address that an `address` operand denotes (R116). -/
def State.addressValue (s : State) : Address → Word
  | .offset k r => s.x r + k.signExtend 32
  | .absolute a => a
  | .indexed a r => a + s.x r

end Sys2Proof.Machine
end

