-- ==== Sys2Proof/Certificates/Slice0/Obligations.lean ====
section
/-! DEFINITION. The statements about the machine, for the provers. The terms they use are those of
Sys2Proof/Safety.lean; each docstring names the rule of spec/ it formalises. -/

section
open Sys2Proof Sys2Proof.Machine

/-! Encoding. -/

/-- Words of the spec's own examples decode to the instructions they are printed beside (R143, R172, R210, R234,
R241, R255, R288, R291, R315, R337, R355, R367, R400, R402): one or more of every family of the table. -/
def Obligations.DecodesPrintedWords : Prop :=
  decodeWord 0x00641020#32 = .instr (.add 2#5 3#5 4#5) ∧
  decodeWord 0x00031102#32 = .instr (.srl 2#5 3#5 4#5) ∧
  decodeWord 0x2862ffff#32 = .instr (.slti 2#5 3#5 0xffff#16) ∧
  decodeWord 0x45010002#32 = .instr (.bc1t 2#16) ∧
  decodeWord 0x04710002#32 = .instr (.bgezal 3#5 2#16) ∧
  decodeWord 0x0c100003#32 = .instr (.jal 0x100003#26) ∧
  decodeWord 0x8c820004#32 = .instr (.lw 2#5 4#16 4#5) ∧
  decodeWord 0x98820003#32 = .instr (.lwr 2#5 3#16 4#5) ∧
  decodeWord 0xe4820004#32 = .instr (.swc1 2#5 4#16 4#5) ∧
  decodeWord 0x40836000#32 = .instr (.mtc0 3#5 12#5) ∧
  decodeWord 0x46241000#32 = .instr (.addD 0#5 2#5 4#5) ∧
  decodeWord 0x46201024#32 = .instr (.cvtWD 0#5 2#5) ∧
  decodeWord 0x42000010#32 = .instr .rfe ∧
  decodeWord 0x0000014d#32 = .instr (.brk 5#20)

/-- Every bare instruction has a word, and that word decodes to it, whatever its operands (R111): no operand bit
of an encoding is dropped. -/
def Obligations.DecodeOfEncodeIsIdentity : Prop :=
  ∀ i : Instr, i.isPseudo = false → ∃ w, encodeWord i = some w ∧ decodeWord w = .instr i

/-- A word decodes to an instruction only if it is that instruction's encoding, every must-be-zero bit zero (R111,
R113 b): no other word is taken for an instruction. -/
def Obligations.EncodeOfDecodeIsIdentity : Prop :=
  ∀ (w : Word) (i : Instr), decodeWord w = .instr i → i.isPseudo = false ∧ encodeWord i = some w

/-- Which words are no instruction, in bits. Refused as instructions the spec does not list are exactly the words of
R113 (a): the control moves of a coprocessor, the four TLB operations, the thirteen other floating point comparisons,
every operation of coprocessors 2 and 3. Refused for their must-be-zero bits are exactly the words that match a row
but for those bits (R113 b, R101, R104). Reserved, so RI, are exactly the words of the empty places of the opcode maps
(R110 to R112). That the TLB words are refused whatever bits 24:6 hold, the comparisons whatever `fmt`, and that bits
10:0 of the coprocessor moves and 24:6 of `rfe` count as must-be-zero bits, is the model's reading (notes/assumptions
14). -/
def Obligations.WordsOutsideTheTable : Prop :=
  ∀ w : Word,
    let op := w.extractLsb' 26 6
    let rs := w.extractLsb' 21 5
    let rt := w.extractLsb' 16 5
    let sh := w.extractLsb' 6 5
    let fn := w.extractLsb' 0 6
    let operation := w.getLsbD 25 = true
    let single := rs = 0x10#5
    let double := rs = 0x11#5
    let integer := rs = 0x14#5
    (decodeWord w = .unlisted ↔
      w.extractLsb' 28 4 = 0b0100#4 ∧
        (rs = 0b00010#5 ∨ rs = 0b00110#5 ∨
          (operation ∧
            ((op = 0x10#6 ∧ fn ∈ [0x01#6, 0x02#6, 0x06#6, 0x08#6]) ∨
              (op = 0x11#6 ∧ w.extractLsb' 4 2 = 0b11#2 ∧ fn ∉ [0x32#6, 0x3c#6, 0x3e#6]) ∨
              op = 0x12#6 ∨ op = 0x13#6)))) ∧
    (decodeWord w = .mustBeZero ↔
      (op = 0#6 ∧
        ((fn ∈ [0x00#6, 0x02#6, 0x03#6] ∧ rs ≠ 0#5) ∨
          (fn ∈ [0x04#6, 0x06#6, 0x07#6, 0x20#6, 0x21#6, 0x22#6, 0x23#6, 0x24#6, 0x25#6, 0x26#6, 0x27#6, 0x2a#6,
            0x2b#6] ∧ sh ≠ 0#5) ∨
          (fn ∈ [0x08#6, 0x11#6, 0x13#6] ∧ w.extractLsb' 6 15 ≠ 0#15) ∨
          (fn = 0x09#6 ∧ (rt ≠ 0#5 ∨ sh ≠ 0#5)) ∨
          (fn ∈ [0x10#6, 0x12#6] ∧ (w.extractLsb' 16 10 ≠ 0#10 ∨ sh ≠ 0#5)) ∨
          (fn ∈ [0x18#6, 0x19#6, 0x1a#6, 0x1b#6] ∧ w.extractLsb' 6 10 ≠ 0#10))) ∨
      (op ∈ [0x06#6, 0x07#6] ∧ rt ≠ 0#5) ∨ (op = 0x0f#6 ∧ rs ≠ 0#5) ∨
      (w.extractLsb' 28 4 = 0b0100#4 ∧ (rs = 0#5 ∨ rs = 4#5) ∧ w.extractLsb' 0 11 ≠ 0#11) ∨
      (op = 0x10#6 ∧ operation ∧ fn = 0x10#6 ∧ w.extractLsb' 6 19 ≠ 0#19) ∨
      (op = 0x11#6 ∧
        (((single ∧ fn ∈ [0x05#6, 0x06#6, 0x07#6, 0x21#6, 0x24#6]) ∨
            (double ∧ fn ∈ [0x05#6, 0x06#6, 0x07#6, 0x20#6, 0x24#6]) ∨
            (integer ∧ fn ∈ [0x20#6, 0x21#6])) ∧ rt ≠ 0#5 ∨
          (single ∨ double) ∧ fn ∈ [0x32#6, 0x3c#6, 0x3e#6] ∧ sh ≠ 0#5))) ∧
    (decodeWord w = .reserved ↔
      op ∈ [0x14#6, 0x15#6, 0x16#6, 0x17#6, 0x18#6, 0x19#6, 0x1a#6, 0x1b#6, 0x1c#6, 0x1d#6, 0x1e#6, 0x1f#6, 0x27#6,
        0x2c#6, 0x2d#6, 0x2f#6, 0x34#6, 0x35#6, 0x36#6, 0x37#6, 0x3c#6, 0x3d#6, 0x3e#6, 0x3f#6] ∨
      (op = 0#6 ∧ fn ∉ [0x00#6, 0x02#6, 0x03#6, 0x04#6, 0x06#6, 0x07#6, 0x08#6, 0x09#6, 0x0c#6, 0x0d#6, 0x10#6,
        0x11#6, 0x12#6, 0x13#6, 0x18#6, 0x19#6, 0x1a#6, 0x1b#6, 0x20#6, 0x21#6, 0x22#6, 0x23#6, 0x24#6, 0x25#6,
        0x26#6, 0x27#6, 0x2a#6, 0x2b#6]) ∨
      (op = 0x01#6 ∧ rt ∉ [0x00#5, 0x01#5, 0x10#5, 0x11#5]) ∨
      (w.extractLsb' 28 4 = 0b0100#4 ∧
        ((¬ operation ∧ rs ∉ [0x00#5, 0x02#5, 0x04#5, 0x06#5, 0x08#5]) ∨
          (rs = 0x08#5 ∧ rt ≠ 0x00#5 ∧ rt ≠ 0x01#5))) ∨
      (op = 0x10#6 ∧ operation ∧ fn ∉ [0x01#6, 0x02#6, 0x06#6, 0x08#6, 0x10#6]) ∨
      (op = 0x11#6 ∧ operation ∧ ¬ (w.extractLsb' 4 2 = 0b11#2 ∧ fn ∉ [0x32#6, 0x3c#6, 0x3e#6]) ∧
        ¬ (single ∧ fn ∈ [0x00#6, 0x01#6, 0x02#6, 0x03#6, 0x05#6, 0x06#6, 0x07#6, 0x21#6, 0x24#6, 0x32#6, 0x3c#6,
          0x3e#6]) ∧
        ¬ (double ∧ fn ∈ [0x00#6, 0x01#6, 0x02#6, 0x03#6, 0x05#6, 0x06#6, 0x07#6, 0x20#6, 0x24#6, 0x32#6, 0x3c#6,
          0x3e#6]) ∧
        ¬ (integer ∧ fn ∈ [0x20#6, 0x21#6])))

/-- The words of every expansion are bare instructions, whatever the machine's byte order and delay slots; a bare
instruction stands for itself, with a `nop` after a branch or jump where the machine has delay slots (R3, R121,
R471 f); and a pseudoinstruction outside the restrictions of its expansion is refused in every state (R121). -/
def Obligations.ExpansionsAndTheirRestrictions : Prop :=
  (∀ (big delay : Bool) (i : Instr), ∀ j ∈ expand big delay i, j.isPseudo = false) ∧
  (∀ (big delay : Bool) (i : Instr), i.isPseudo = false →
    expand big delay i = if delay = true ∧ isTransfer i = true then [i, .sll 0#5 0#5 0#5] else [i]) ∧
  (∀ (i : Instr) (s : State), i.isPseudo = true → wellFormed i = false →
    exec i s = .refused .pseudoOutsideRestrictions)

/-! The step. -/

/-- A step that takes no interrupt and whose fetch raises nothing runs the instruction it decodes, in the state
whose interrupt lines have been sampled; that state differs from the one before only in the sampled lines and the
rest of the environment's input (R31, R430). -/
def Obligations.StepRunsDecodedInstruction : Prop :=
  ∀ (s t : State) (i : Instr),
    t = { s with intLines := s.intSchedule.headD 0#5, intSchedule := s.intSchedule.tail } →
    t.interruptTaken = false → t.fetchFault = none → t.fetchStale = false →
    decodeWord (t.word t.pc) = .instr i → step s = exec i t

/-- A word placed where the next step fetches is the word the step runs, in either byte order, and taken for no
store of the program (R62, R70, R462). That placing a word takes its bytes off the program's stores and drops an
interrupt request that the next step would take is the model's choice (notes/assumptions 11). -/
def Obligations.PlacedWordRuns : Prop :=
  ∀ (s : State) (w : Word) (i : Instr), aligned4 s.pc = true → s.CanAccess s.pc (wordSpan s.pc) →
    decodeWord w = .instr i →
    step (s.withFetchWord 32 w.toNat) = exec i (s.withFetchWord 32 w.toNat).sampleInterrupts

/-- An interrupt is taken before the fetch exactly when `Status.IEc` is 1 and some level is requested and allowed: the
step is then trap entry with code 0 at `pc`; otherwise the step executes the instruction (R432). None is taken between
a branch and its delay slot (R471 e). That a load in its delay stays in it through trap entry is the model's reading
(notes/assumptions 15). -/
def Obligations.InterruptTakenExactlyWhenEnabled : Prop :=
  ∀ (s : State),
    (s.inDelaySlot = false → s.status.getLsbD 0 = true →
      (∃ l : Fin 5, s.nextLines.getLsbD l = true ∧ s.status.getLsbD s.params.intBit[l] = true) →
      Traps (step s) s.sampleInterrupts 0#4 s.badVAddr) ∧
    ((s.inDelaySlot = true ∨ s.status.getLsbD 0 = false ∨
        ∀ l : Fin 5, s.nextLines.getLsbD l = false ∨ s.status.getLsbD s.params.intBit[l] = false) →
      s.sampleInterrupts.interruptTaken = false ∧
      ∀ i : Instr, s.sampleInterrupts.fetchFault = none → s.fetchStale = false →
        decodeWord (s.word s.pc) = .instr i → step s = exec i s.sampleInterrupts)

/-- A fetch at an address that is no multiple of 4, or that user mode may not touch under `ENFORCE_KUSEG`, raises
ADDRL with `BadVAddr` the `pc`; else one at an address where memory does not respond raises IBUS and leaves `BadVAddr`
alone (R70, R412, R414, R421). That the fetch of a delay slot leaves the branch in `EPC` and sets `BD` is the model's
reading (notes/assumptions 17). That a load in its delay stays in it through trap entry is the model's reading
(notes/assumptions 15). -/
def Obligations.FetchFaultsTrap : Prop :=
  ∀ (s : State), s.sampleInterrupts.interruptTaken = false →
    (aligned4 s.pc = false → Traps (step s) s.sampleInterrupts 4#4 s.pc) ∧
    (aligned4 s.pc = true → s.params.enforceKuseg = true → s.userMode = true → 0x80000000 ≤ s.pc.toNat →
      Traps (step s) s.sampleInterrupts 4#4 s.pc) ∧
    (aligned4 s.pc = true → ¬ (s.params.enforceKuseg = true ∧ s.userMode = true ∧ 0x80000000 ≤ s.pc.toNat) →
      (∃ p ∈ wordSpan s.pc, s.mapped p = false) → Traps (step s) s.sampleInterrupts 6#4 s.badVAddr)

/-- What a step does with a fetched word that decodes to no instruction: a reserved word raises RI, code 10, and has
no other effect (R112); the words of R113 are refused, not executed and not trapped. Which words these are is what
WordsOutsideTheTable says. That a reserved word in a delay slot leaves the branch in `EPC` and sets `BD` is the
model's reading (notes/assumptions 17). That a load in its delay stays in it through trap entry is the model's reading
(notes/assumptions 15). -/
def Obligations.WordsWithoutInstruction : Prop :=
  ∀ (s : State), s.sampleInterrupts.interruptTaken = false → s.sampleInterrupts.fetchFault = none →
    s.fetchStale = false →
    (decodeWord (s.word s.pc) = .reserved → Traps (step s) s.sampleInterrupts 10#4 s.badVAddr) ∧
    (decodeWord (s.word s.pc) = .unlisted → step s = .refused .unlistedInstruction) ∧
    (decodeWord (s.word s.pc) = .mustBeZero → step s = .refused .mustBeZeroBits)

/-- With `FETCH_SEES_STORES` false every byte stored is remembered, and a fetch of one is refused (R82); with it
true nothing is remembered, no fetch is refused for a store, and a word stored at `pc` is the word that the next step
runs (R79). -/
def Obligations.FetchOfStoredBytes : Prop :=
  (∀ (s : State) (bytes : List (Word × Byte)) (a : Word), s.params.fetchSeesStores = false →
    (a.toNat ∈ (s.storeAll bytes).storedBytes ↔ a ∈ bytes.map Prod.fst ∨ a.toNat ∈ s.storedBytes)) ∧
  (∀ (s : State), s.sampleInterrupts.interruptTaken = false → s.sampleInterrupts.fetchFault = none →
    s.params.fetchSeesStores = false → (∃ a ∈ wordSpan s.pc, a.toNat ∈ s.storedBytes) →
    step s = .refused .fetchOfStoredByte) ∧
  (∀ (s : State), s.params.fetchSeesStores = true →
    s.fetchStale = false ∧ (∀ bytes, (s.storeAll bytes).storedBytes = s.storedBytes) ∧
    ∀ (w : Word) (i : Instr), s.sampleInterrupts.interruptTaken = false → s.sampleInterrupts.fetchFault = none →
      decodeWord w = .instr i →
      step (s.storeAll (wordBytes s.params.bigEndian s.pc w)) =
        exec i (s.storeAll (wordBytes s.params.bigEndian s.pc w)).sampleInterrupts)

/-- With `SYSCALL_MODE = trap` the machine never stops by a fault: only a host service can end a run (R401, R445). -/
def Obligations.OnlyTheHostEndsARun : Prop :=
  ∀ (s : State), s.params.syscallMode = .trap → ∀ r : Fault, step s ≠ .fault r

/-! Reset, invariants, modes. -/

/-- Reset leaves kernel mode with interrupts disabled, `pc` at `RESET_PC`, register 0 zero and nothing pending (R460,
R50), and in that state the invariant holds. The values R50 leaves unspecified are the model's choice
(notes/assumptions 7), and so are the parameters the reset state carries (notes/assumptions 2). -/
def Obligations.ResetStateMeetsInvariant : Prop :=
  State.reset.Inv ∧ State.reset.pc = State.reset.params.resetPc ∧ State.reset.userMode = false ∧
    State.reset.status.getLsbD 0 = false ∧ State.reset.x 0#5 = 0#32 ∧ State.reset.pendingTarget = none ∧
    State.reset.loadPending = none ∧ aligned4 State.reset.pc = true ∧
    (wordSpan State.reset.pc).all State.reset.mapped = true ∧ State.reset.params.wf = true

/-- Every step keeps the invariant: the canonical form of memory, register 0, the bits of `Status`, the exception
codes of R39, and the absence of state that the parameters rule out (R21, R36, R39, R43, R44). -/
def Obligations.StepKeepsInvariant : Prop :=
  ∀ s t : State, s.Inv → step s = .next t → t.Inv

/-- Every meaning keeps the invariant, those of the pseudoinstructions too, and changes no parameter (R45). The
counter of free draws is the model's own (notes/assumptions 9): it rises with every meaning. -/
def Obligations.EveryMeaningKeepsInvariant : Prop :=
  ∀ (i : Instr) (s t : State), s.Inv → exec i s = .next t →
    t.Inv ∧ t.params = s.params ∧ s.freeCount < t.freeCount

/-- A step taken in user mode leaves `Status` as it is, or it is trap entry: the mode stack is pushed, kernel mode
entered, one of the nine causes recorded and control at `EXC_VECTOR` (R436, R437, R410). That the coprocessor-0
instructions trap in user mode is the model's choice (notes/assumptions 12), and so is that a host service leaves
`Status` and the exception registers alone (notes/assumptions 22), that the failed fetch of a delay slot leaves the
branch in `EPC` (notes/assumptions 17), and that a load stays in its delay through trap entry (notes/assumptions 15). -/
def Obligations.UserModeLeavesOnlyByTrapEntry : Prop :=
  ∀ s t : State, s.userMode = true → step s = .next t →
    (t.status = s.status ∧ t.epc = s.epc ∧ t.excCode = s.excCode ∧ t.badVAddr = s.badVAddr) ∨
    (t.userMode = false ∧ t.status = pushStatus s.status ∧ t.pc = s.params.excVector ∧
      t.epc = (if s.inDelaySlot = true then s.pc - 4#32 else s.pc) ∧ t.bd = s.inDelaySlot ∧
      t.excCode ∈ [0#4, 4#4, 5#4, 6#4, 7#4, 8#4, 9#4, 10#4, 12#4] ∧
      SameGpr s t ∧ SameHiLo s t ∧ SameFp s t ∧ SameMemory s t ∧ t.pendingTarget = none ∧
      t.loadPending = s.loadPending)

/-! Registers and memory. -/

/-- Register 0 reads 0 in every state, no meaning writes it, and an instruction whose destination it is computes as
usual and takes whatever exception it takes with another destination, its register write discarded: so for every bare
instruction that names a destination register (R21). A write of another register leaves every other one alone. -/
def Obligations.RegisterZeroIsHardwired : Prop :=
  ∀ (s : State) (rs rt : RegIdx) (sh : BitVec 5) (imm : Half) (v : Word), s.x 0#5 = 0#32 ∧ s.setX 0#5 v = s ∧
    (∀ r : RegIdx, r ≠ 0#5 → s.gprDelayed r = false →
      (s.setX r v).x r = v ∧ ∀ q, q ≠ r → (s.setX r v).x q = s.x q) ∧
    (∀ (i : Instr) (t : State), exec i s = .next t → readSlot t.gpr 0#5 = readSlot s.gpr 0#5) ∧
    ∀ f ∈ ([(.sll · rt sh), (.srl · rt sh), (.sra · rt sh), (.sllv · rt rs), (.srlv · rt rs), (.srav · rt rs),
        (.jalr · rs), (.mfhi ·), (.mflo ·), (.add · rs rt), (.addu · rs rt), (.sub · rs rt), (.subu · rs rt),
        (.and · rs rt), (.or · rs rt), (.xor · rs rt), (.nor · rs rt), (.slt · rs rt), (.sltu · rs rt),
        (.addi · rs imm), (.addiu · rs imm), (.slti · rs imm), (.sltiu · rs imm), (.andi · rs imm),
        (.ori · rs imm), (.xori · rs imm), (.lui · imm), (.mfc0 · rt), (.mfc1 · rt), (.mfc2 · rt), (.mfc3 · rt),
        (.lb · imm rs), (.lbu · imm rs), (.lh · imm rs), (.lhu · imm rs), (.lw · imm rs), (.lwl · imm rs),
        (.lwr · imm rs)] : List (RegIdx → Instr)), Discards f s

/-- With `LOAD_DELAY_SLOT` the register of a load still in its delay reads as any value, but for general register 0 and
for a partial-word load that follows another; every other register reads what it holds, every floating point register,
`f[0]` among them, included; without it there is no delay (R44, R472). -/
def Obligations.LoadDelayReads : Prop :=
  ∀ (s : State) (r q : RegIdx) (b : Bool),
    (s.params.loadDelaySlot = true → s.loadPending = some (.gpr q b) →
      s.f r = readSlot s.fpr r ∧
      (r ≠ 0#5 →
        (r = q → s.x r = Config.freeWord s.freeCount (.delayedGpr r)) ∧
        (r ≠ q → s.x r = readSlot s.gpr r) ∧
        (b = true → s.xMerged r = readSlot s.gpr r) ∧ (b = false → s.xMerged r = s.x r))) ∧
    (s.params.loadDelaySlot = true → s.loadPending = some (.fpr q) →
      (r = q → s.f r = Config.freeWord s.freeCount (.delayedFpr r)) ∧
      (r ≠ q → s.f r = readSlot s.fpr r) ∧ (r ≠ 0#5 → s.x r = readSlot s.gpr r)) ∧
    ((s.params.loadDelaySlot = false ∨ s.loadPending = none) →
      s.f r = readSlot s.fpr r ∧ (r ≠ 0#5 → s.x r = readSlot s.gpr r ∧ s.xMerged r = readSlot s.gpr r))

/-- A word or halfword is read in the machine's byte order (R65); one that is stored is the one read back at that
address, each byte stands where the byte order puts it, and every other byte of memory is unchanged (R66). -/
def Obligations.StoredWordsReadBack : Prop :=
  ∀ (s : State) (a : Word) (v : Word) (h : Half),
    s.half a = (if s.params.bigEndian = true then s.byte a ++ s.byte (a + 1#32)
      else s.byte (a + 1#32) ++ s.byte a) ∧
    s.word a = (if s.params.bigEndian = true
      then s.byte a ++ s.byte (a + 1#32) ++ s.byte (a + 2#32) ++ s.byte (a + 3#32)
      else s.byte (a + 3#32) ++ s.byte (a + 2#32) ++ s.byte (a + 1#32) ++ s.byte a) ∧
    (s.storeAll (wordBytes s.params.bigEndian a v)).word a = v ∧
    (s.storeAll (halfBytes s.params.bigEndian a h)).half a = h ∧
    (∀ p, (s.storeAll (wordBytes s.params.bigEndian a v)).byte p =
      (storedWord s.params.bigEndian a v p).getD (s.byte p)) ∧
    (∀ p, (s.storeAll (halfBytes s.params.bigEndian a h)).byte p =
      (storedHalf s.params.bigEndian a h p).getD (s.byte p))

/-! Arithmetic, logic, shifts, constants, comparisons. -/

/-- The six shifts and their words: multiplication and division by a power of two; only the low five bits of a
distance count (R168 to R173, R108). -/
def Obligations.ShiftsMultiplyAndDivide : Prop :=
  ∀ (s : State) (rd rt rs : RegIdx) (sh : BitVec 5),
    decodeWord (rWord 0#5 rt rd sh 0b000000#6) = .instr (.sll rd rt sh) ∧
    decodeWord (rWord 0#5 rt rd sh 0b000010#6) = .instr (.srl rd rt sh) ∧
    decodeWord (rWord 0#5 rt rd sh 0b000011#6) = .instr (.sra rd rt sh) ∧
    decodeWord (rWord rs rt rd 0#5 0b000100#6) = .instr (.sllv rd rt rs) ∧
    decodeWord (rWord rs rt rd 0#5 0b000110#6) = .instr (.srlv rd rt rs) ∧
    decodeWord (rWord rs rt rd 0#5 0b000111#6) = .instr (.srav rd rt rs) ∧
    WritesGpr (exec (.sll rd rt sh) s) s rd (BitVec.ofNat 32 ((s.x rt).toNat * 2 ^ sh.toNat)) ∧
    WritesGpr (exec (.srl rd rt sh) s) s rd (BitVec.ofNat 32 ((s.x rt).toNat / 2 ^ sh.toNat)) ∧
    WritesGpr (exec (.sra rd rt sh) s) s rd (BitVec.ofInt 32 ((s.x rt).toInt.fdiv (2 ^ sh.toNat))) ∧
    WritesGpr (exec (.sllv rd rt rs) s) s rd
      (BitVec.ofNat 32 ((s.x rt).toNat * 2 ^ ((s.x rs).toNat % 32))) ∧
    WritesGpr (exec (.srlv rd rt rs) s) s rd
      (BitVec.ofNat 32 ((s.x rt).toNat / 2 ^ ((s.x rs).toNat % 32))) ∧
    WritesGpr (exec (.srav rd rt rs) s) s rd
      (BitVec.ofInt 32 ((s.x rt).toInt.fdiv (2 ^ ((s.x rs).toNat % 32))))

/-- The additions and the subtraction without overflow, and their words: the exact result modulo 2^32 (R145, R146,
R175). -/
def Obligations.WrappingArithmetic : Prop :=
  ∀ (s : State) (rd rs rt : RegIdx) (imm : Half),
    decodeWord (rWord rs rt rd 0#5 0b100001#6) = .instr (.addu rd rs rt) ∧
    decodeWord (iWord 0b001001#6 rs rt imm) = .instr (.addiu rt rs imm) ∧
    decodeWord (rWord rs rt rd 0#5 0b100011#6) = .instr (.subu rd rs rt) ∧
    WritesGpr (exec (.addu rd rs rt) s) s rd (BitVec.ofInt 32 ((s.x rs).toInt + (s.x rt).toInt)) ∧
    WritesGpr (exec (.addiu rt rs imm) s) s rt (BitVec.ofInt 32 ((s.x rs).toInt + imm.toInt)) ∧
    WritesGpr (exec (.subu rd rs rt) s) s rd (BitVec.ofInt 32 ((s.x rs).toInt - (s.x rt).toInt))

/-- The additions and the subtraction with overflow, and their words: a signed result that fits is written; one that
does not raises OVF, code 12, and leaves the destination unchanged (R141, R143, R144, R174). That a load in its delay
stays in it through trap entry is the model's reading (notes/assumptions 15). -/
def Obligations.CheckedArithmetic : Prop :=
  ∀ (s : State) (rd rs rt : RegIdx) (imm : Half),
    let sum := (s.x rs).toInt + (s.x rt).toInt
    let sumImm := (s.x rs).toInt + imm.toInt
    let diff := (s.x rs).toInt - (s.x rt).toInt
    decodeWord (rWord rs rt rd 0#5 0b100000#6) = .instr (.add rd rs rt) ∧
    decodeWord (iWord 0b001000#6 rs rt imm) = .instr (.addi rt rs imm) ∧
    decodeWord (rWord rs rt rd 0#5 0b100010#6) = .instr (.sub rd rs rt) ∧
    (if -2 ^ 31 ≤ sum ∧ sum ≤ 2 ^ 31 - 1
      then WritesGpr (exec (.add rd rs rt) s) s rd (BitVec.ofInt 32 sum)
      else Traps (exec (.add rd rs rt) s) s 12#4 s.badVAddr) ∧
    (if -2 ^ 31 ≤ sumImm ∧ sumImm ≤ 2 ^ 31 - 1
      then WritesGpr (exec (.addi rt rs imm) s) s rt (BitVec.ofInt 32 sumImm)
      else Traps (exec (.addi rt rs imm) s) s 12#4 s.badVAddr) ∧
    (if -2 ^ 31 ≤ diff ∧ diff ≤ 2 ^ 31 - 1
      then WritesGpr (exec (.sub rd rs rt) s) s rd (BitVec.ofInt 32 diff)
      else Traps (exec (.sub rd rs rt) s) s 12#4 s.badVAddr)

/-- The logical operations, bit by bit, and `lui`, and their words; the immediates of `andi`, `ori`, `xori` are zero-extended (R147,
R148, R160, R162, R163, R176, R177, R201). -/
def Obligations.LogicalAndConstantResults : Prop :=
  ∀ (s : State) (rd rs rt : RegIdx) (imm : Half),
    decodeWord (rWord rs rt rd 0#5 0b100100#6) = .instr (.and rd rs rt) ∧
    decodeWord (rWord rs rt rd 0#5 0b100101#6) = .instr (.or rd rs rt) ∧
    decodeWord (rWord rs rt rd 0#5 0b100110#6) = .instr (.xor rd rs rt) ∧
    decodeWord (rWord rs rt rd 0#5 0b100111#6) = .instr (.nor rd rs rt) ∧
    decodeWord (iWord 0b001100#6 rs rt imm) = .instr (.andi rt rs imm) ∧
    decodeWord (iWord 0b001101#6 rs rt imm) = .instr (.ori rt rs imm) ∧
    decodeWord (iWord 0b001110#6 rs rt imm) = .instr (.xori rt rs imm) ∧
    decodeWord (iWord 0b001111#6 0#5 rt imm) = .instr (.lui rt imm) ∧
    WritesGpr (exec (.and rd rs rt) s) s rd (s.x rs &&& s.x rt) ∧
    WritesGpr (exec (.or rd rs rt) s) s rd (s.x rs ||| s.x rt) ∧
    WritesGpr (exec (.xor rd rs rt) s) s rd (s.x rs ^^^ s.x rt) ∧
    WritesGpr (exec (.nor rd rs rt) s) s rd (~~~(s.x rs ||| s.x rt)) ∧
    WritesGpr (exec (.andi rt rs imm) s) s rt (s.x rs &&& BitVec.ofNat 32 imm.toNat) ∧
    WritesGpr (exec (.ori rt rs imm) s) s rt (s.x rs ||| BitVec.ofNat 32 imm.toNat) ∧
    WritesGpr (exec (.xori rt rs imm) s) s rt (s.x rs ^^^ BitVec.ofNat 32 imm.toNat) ∧
    WritesGpr (exec (.lui rt imm) s) s rt (BitVec.ofNat 32 (65536 * imm.toNat))

/-- The bare comparisons, and their words: they write 1 or 0; the immediate of `sltiu` is sign-extended and then compared unsigned (R209 to
R212). -/
def Obligations.SetOnLessThan : Prop :=
  ∀ (s : State) (rd rs rt : RegIdx) (imm : Half),
    decodeWord (rWord rs rt rd 0#5 0b101010#6) = .instr (.slt rd rs rt) ∧
    decodeWord (iWord 0b001010#6 rs rt imm) = .instr (.slti rt rs imm) ∧
    decodeWord (rWord rs rt rd 0#5 0b101011#6) = .instr (.sltu rd rs rt) ∧
    decodeWord (iWord 0b001011#6 rs rt imm) = .instr (.sltiu rt rs imm) ∧
    WritesGpr (exec (.slt rd rs rt) s) s rd (if (s.x rs).toInt < (s.x rt).toInt then 1#32 else 0#32) ∧
    WritesGpr (exec (.slti rt rs imm) s) s rt (if (s.x rs).toInt < imm.toInt then 1#32 else 0#32) ∧
    WritesGpr (exec (.sltu rd rs rt) s) s rd (if (s.x rs).toNat < (s.x rt).toNat then 1#32 else 0#32) ∧
    WritesGpr (exec (.sltiu rt rs imm) s) s rt
      (if (s.x rs).toNat < (BitVec.ofInt 32 imm.toInt).toNat then 1#32 else 0#32)

/-- `mult` and `multu`, and their words: they leave the whole 64-bit product in `hi` and `lo` (R156, R157). -/
def Obligations.MultiplyLeavesWholeProduct : Prop :=
  ∀ (s : State) (rs rt : RegIdx),
    decodeWord (rWord rs rt 0#5 0#5 0b011000#6) = .instr (.mult rs rt) ∧
    decodeWord (rWord rs rt 0#5 0#5 0b011001#6) = .instr (.multu rs rt) ∧
    WritesHiLo (exec (.mult rs rt) s) s
      (fun h l => (h ++ l : DWord).toInt = (s.x rs).toInt * (s.x rt).toInt) ∧
    WritesHiLo (exec (.multu rs rt) s) s
      (fun h l => (h ++ l : DWord).toNat = (s.x rs).toNat * (s.x rt).toNat)

/-- `div` and `divu` complete for all operands, and where R179 gives the quotient and the remainder they stand in `lo`
and `hi`: for operands that are not negative; for a negative one as `DivNumerics` says, toward zero with the
dividend's sign under `trunc`, the quotient rounded either way under `open` (R149, R150, R179). -/
def Obligations.DivideResults : Prop :=
  ∀ (s : State) (rs rt : RegIdx),
    WritesHiLo (exec (.div rs rt) s) s (fun h l =>
      let a := (s.x rs).toInt
      let b := (s.x rt).toInt
      (0 ≤ a → 0 < b → l.toInt * b + h.toInt = a ∧ 0 ≤ h.toInt ∧ h.toInt < b) ∧
      (b ≠ 0 → (a < 0 ∨ b < 0) → ¬ (a = -2 ^ 31 ∧ b = -1) →
        (s.params.divNumerics = .trunc →
          l.toInt * b + h.toInt = a ∧ h.toInt.natAbs < b.natAbs ∧ (h.toInt = 0 ∨ (h.toInt < 0 ↔ a < 0))) ∧
        (s.params.divNumerics = .unspecified → l.toInt = a.tdiv b ∨ l.toInt = a.fdiv b))) ∧
    WritesHiLo (exec (.divu rs rt) s) s (fun h l =>
      s.x rt ≠ 0#32 →
        l.toNat * (s.x rt).toNat + h.toNat = (s.x rs).toNat ∧ h.toNat < (s.x rt).toNat)

/-- The moves from and to `hi` and `lo`, and their words (R331 to R334). -/
def Obligations.HiLoMoves : Prop :=
  ∀ (s : State) (r : RegIdx),
    decodeWord (rWord 0#5 0#5 r 0#5 0b010000#6) = .instr (.mfhi r) ∧
    decodeWord (rWord 0#5 0#5 r 0#5 0b010010#6) = .instr (.mflo r) ∧
    decodeWord (rWord r 0#5 0#5 0#5 0b010001#6) = .instr (.mthi r) ∧
    decodeWord (rWord r 0#5 0#5 0#5 0b010011#6) = .instr (.mtlo r) ∧
    WritesGpr (exec (.mfhi r) s) s r s.hi ∧ WritesGpr (exec (.mflo r) s) s r s.lo ∧
    WritesHiLo (exec (.mthi r) s) s (fun h l => h = s.x r ∧ l = s.lo) ∧
    WritesHiLo (exec (.mtlo r) s) s (fun h l => h = s.hi ∧ l = s.x r)

/-! Branches and jumps. -/

/-- The conditional branches without a link, and the words of those on general registers: they go to `pc + 4 + 4 * offset` exactly when their condition holds; with delay
slots the target waits until the slot has run (R231, R234 to R236, R240, R244, R247, R251, R252, R106, R471 a). -/
def Obligations.ConditionalBranches : Prop :=
  ∀ (s : State) (rs rt : RegIdx) (imm : Half), s.inDelaySlot = false →
    let target := s.pc + 4#32 + BitVec.ofInt 32 (4 * imm.toInt)
    decodeWord (iWord 0b000100#6 rs rt imm) = .instr (.beq rs rt imm) ∧
    decodeWord (iWord 0b000101#6 rs rt imm) = .instr (.bne rs rt imm) ∧
    decodeWord (iWord 0b000001#6 rs 0b00001#5 imm) = .instr (.bgez rs imm) ∧
    decodeWord (iWord 0b000001#6 rs 0b00000#5 imm) = .instr (.bltz rs imm) ∧
    decodeWord (iWord 0b000111#6 rs 0#5 imm) = .instr (.bgtz rs imm) ∧
    decodeWord (iWord 0b000110#6 rs 0#5 imm) = .instr (.blez rs imm) ∧
    Branches (exec (.beq rs rt imm) s) s (decide (s.x rs = s.x rt)) target none ∧
    Branches (exec (.bne rs rt imm) s) s (decide (s.x rs ≠ s.x rt)) target none ∧
    Branches (exec (.bgez rs imm) s) s (decide (0 ≤ (s.x rs).toInt)) target none ∧
    Branches (exec (.bltz rs imm) s) s (decide ((s.x rs).toInt < 0)) target none ∧
    Branches (exec (.bgtz rs imm) s) s (decide (0 < (s.x rs).toInt)) target none ∧
    Branches (exec (.blez rs imm) s) s (decide ((s.x rs).toInt ≤ 0)) target none ∧
    Branches (exec (.bc1t imm) s) s s.cc1 target none ∧
    Branches (exec (.bc1f imm) s) s (!s.cc1) target none

/-- The jumps and the linking branches: the link register takes the address of the next instruction whether or not
the branch is taken, after the condition and the target have been read (R241, R248, R254 to R257, R107, R260,
R471 a). -/
def Obligations.JumpsAndLinks : Prop :=
  ∀ (s : State) (rd rs : RegIdx) (imm : Half) (field : BitVec 26), s.inDelaySlot = false →
    let target := s.pc + 4#32 + BitVec.ofInt 32 (4 * imm.toInt)
    let jump := BitVec.ofNat 32 ((s.pc + 4#32).toNat / 2 ^ 28 * 2 ^ 28 + 4 * field.toNat)
    Branches (exec (.j field) s) s true jump none ∧
    Branches (exec (.jr rs) s) s true (s.x rs) none ∧
    Branches (exec (.jal field) s) s true jump (some 31#5) ∧
    Branches (exec (.jalr rd rs) s) s true (s.x rs) (some rd) ∧
    Branches (exec (.bgezal rs imm) s) s (decide (0 ≤ (s.x rs).toInt)) target (some 31#5) ∧
    Branches (exec (.bltzal rs imm) s) s (decide ((s.x rs).toInt < 0)) target (some 31#5)

/-- A branch or jump in a delay slot is refused, every one of them (R471 c). -/
def Obligations.BranchInDelaySlotRefused : Prop :=
  ∀ (s : State) (rd rs rt : RegIdx) (imm : Half) (field : BitVec 26) (i : Instr), s.inDelaySlot = true →
    i ∈ [.beq rs rt imm, .bne rs rt imm, .bgez rs imm, .bltz rs imm, .bgtz rs imm, .blez rs imm, .bc1t imm,
      .bc1f imm, .bgezal rs imm, .bltzal rs imm, .j field, .jal field, .jr rs, .jalr rd rs] →
    exec i s = .refused .branchInDelaySlot

/-- The instructions of coprocessors 2 and 3, and the branches on the condition flag of coprocessor 0, stop: no text
gives them an effect (R34, R42, R234, R235, R289, R315, R335, R337). The loads and stores among them stop in every state
in which they do not take the exception of their address, which FaultingLoadsTrap and FaultingStoresTrap state; that
the address comes first is the model's reading (notes/assumptions 13). -/
def Obligations.UndescribedCoprocessorsRefused : Prop :=
  ∀ (s : State) (rt rd rs : RegIdx) (imm : Half) (i : Instr),
    let a := s.ea imm rs
    (i ∈ [.bc2f imm, .bc2t imm, .bc3f imm, .bc3t imm, .mfc2 rt rd, .mfc3 rt rd, .mtc2 rt rd, .mtc3 rt rd] →
      exec i s = .refused .coprocessorAbsent) ∧
    (i ∈ [.lwc2 rt imm rs, .lwc3 rt imm rs] → a.toNat % 4 = 0 → s.CanAccess a (wordSpan a) →
      exec i s = .refused .coprocessorAbsent) ∧
    (i ∈ [.swc2 rt imm rs, .swc3 rt imm rs] → a.toNat % 4 = 0 → exec i s = .refused .coprocessorAbsent) ∧
    (i ∈ [.bc0f imm, .bc0t imm] → exec i s = .refused .conditionFlagUndriven)

/-- The branch pseudoinstructions, with a register or a constant: the comparison of their rule decides; the target
counts from the word after the branch word; `$at` may change where a comparison or a constant needs it (R233, R237 to R239, R242, R243, R245, R246, R249, R250, R253, R261). -/
def Obligations.BranchPseudoinstructions : Prop :=
  ∀ (s : State) (rs : RegIdx) (src : Src2) (off : Half), s.Settled → notAt rs = true → src.notAt = true →
    let a := s.x rs
    let b := s.srcValue src
    let k := constantWords src + 1
    PseudoBranches (.pB off) s true 0 off false ∧
    PseudoBranches (.pBeqz rs off) s (decide (a = 0#32)) 0 off false ∧
    PseudoBranches (.pBnez rs off) s (decide (a ≠ 0#32)) 0 off false ∧
    PseudoBranches (.pBge rs src off) s (decide (b.toInt ≤ a.toInt)) k off true ∧
    PseudoBranches (.pBgeu rs src off) s (decide (b.toNat ≤ a.toNat)) k off true ∧
    PseudoBranches (.pBgt rs src off) s (decide (b.toInt < a.toInt)) k off true ∧
    PseudoBranches (.pBgtu rs src off) s (decide (b.toNat < a.toNat)) k off true ∧
    PseudoBranches (.pBle rs src off) s (decide (a.toInt ≤ b.toInt)) k off true ∧
    PseudoBranches (.pBleu rs src off) s (decide (a.toNat ≤ b.toNat)) k off true ∧
    PseudoBranches (.pBlt rs src off) s (decide (a.toInt < b.toInt)) k off true ∧
    PseudoBranches (.pBltu rs src off) s (decide (a.toNat < b.toNat)) k off true

/-! Loads. -/

/-- The aligned loads write the byte, halfword or word at `x[rs] + sext_16(imm16)`, extended as their names say, and
change nothing else (R280, R283, R284, R286 to R288). -/
def Obligations.AlignedLoads : Prop :=
  ∀ (s : State) (rt rs : RegIdx) (imm : Half),
    let a := s.ea imm rs
    (s.CanAccess a [a] →
      LoadsGpr (exec (.lb rt imm rs) s) s rt (BitVec.ofInt 32 (s.byte a).toInt) false ∧
      LoadsGpr (exec (.lbu rt imm rs) s) s rt (BitVec.ofNat 32 (s.byte a).toNat) false) ∧
    (a.toNat % 2 = 0 → s.CanAccess a [a, a + 1#32] →
      LoadsGpr (exec (.lh rt imm rs) s) s rt (BitVec.ofInt 32 (s.half a).toInt) false ∧
      LoadsGpr (exec (.lhu rt imm rs) s) s rt (BitVec.ofNat 32 (s.half a).toNat) false) ∧
    (a.toNat % 4 = 0 → s.CanAccess a (wordSpan a) →
      LoadsGpr (exec (.lw rt imm rs) s) s rt (s.word a) false)

/-- `lwl` and `lwr` merge the bytes of their formulas into the register, in both byte orders, at every offset in the
word, and keep its other bytes (R290, R291). -/
def Obligations.UnalignedLoadsMerge : Prop :=
  ∀ (s : State) (rt rs : RegIdx) (imm : Half),
    let a := s.ea imm rs
    let b := a.toNat % 4
    let old := s.xMerged rt
    s.CanAccess a (wordSpan (a - BitVec.ofNat 32 b)) →
    (∃ v, LoadsGpr (exec (.lwl rt imm rs) s) s rt v true ∧
      if s.params.bigEndian = true then
        (∀ i, i ≤ 3 - b → v.extractLsb' (8 * (3 - i)) 8 = s.byte (a + BitVec.ofNat 32 i)) ∧
        ∀ k, k < b → v.extractLsb' (8 * k) 8 = old.extractLsb' (8 * k) 8
      else
        (∀ i, i ≤ b → v.extractLsb' (8 * (3 - i)) 8 = s.byte (a - BitVec.ofNat 32 i)) ∧
        ∀ k, k < 3 - b → v.extractLsb' (8 * k) 8 = old.extractLsb' (8 * k) 8) ∧
    (∃ v, LoadsGpr (exec (.lwr rt imm rs) s) s rt v true ∧
      if s.params.bigEndian = true then
        (∀ i, i ≤ b → v.extractLsb' (8 * i) 8 = s.byte (a - BitVec.ofNat 32 i)) ∧
        ∀ k, b < k → k ≤ 3 → v.extractLsb' (8 * k) 8 = old.extractLsb' (8 * k) 8
      else
        (∀ i, i ≤ 3 - b → v.extractLsb' (8 * i) 8 = s.byte (a + BitVec.ofNat 32 i)) ∧
        ∀ k, 3 - b < k → k ≤ 3 → v.extractLsb' (8 * k) 8 = old.extractLsb' (8 * k) 8)

/-- Where a load does not complete it traps: ADDRL with `BadVAddr` the address for a misaligned one, then for one that
`ENFORCE_KUSEG` denies, then DBUS, `BadVAddr` unchanged, where memory does not respond to a byte of the access;
`lwc0`, `lwc2` and `lwc3` too, before their mode and register are looked at (R68, R280, R289, R412, R415, R421). That
order is the model's reading (notes/assumptions 13), and so is DBUS for `lwl` and `lwr` when any byte of the aligned
word is unmapped (notes/assumptions 29). That a load in its delay stays in it through trap entry is the model's
reading (notes/assumptions 15). -/
def Obligations.FaultingLoadsTrap : Prop :=
  ∀ (s : State) (rt rs : RegIdx) (imm : Half) (i : Instr),
    let a := s.ea imm rs
    let denied := s.params.enforceKuseg = true ∧ s.userMode = true ∧ 0x80000000 ≤ a.toNat
    let bytes := [Instr.lb rt imm rs, .lbu rt imm rs]
    let halves := [Instr.lh rt imm rs, .lhu rt imm rs]
    let words := [Instr.lw rt imm rs, .lwc0 rt imm rs, .lwc1 rt imm rs, .lwc2 rt imm rs, .lwc3 rt imm rs]
    let parts := [Instr.lwl rt imm rs, .lwr rt imm rs]
    (i ∈ halves → a.toNat % 2 ≠ 0 → Traps (exec i s) s 4#4 a) ∧
    (i ∈ words → a.toNat % 4 ≠ 0 → Traps (exec i s) s 4#4 a) ∧
    (i ∈ bytes ++ halves ++ words ++ parts → denied → Traps (exec i s) s 4#4 a) ∧
    (¬ denied →
      (i ∈ bytes → s.mapped a = false → Traps (exec i s) s 7#4 s.badVAddr) ∧
      (i ∈ halves → a.toNat % 2 = 0 → (∃ p ∈ [a, a + 1#32], s.mapped p = false) →
        Traps (exec i s) s 7#4 s.badVAddr) ∧
      (i ∈ words → a.toNat % 4 = 0 → (∃ p ∈ wordSpan a, s.mapped p = false) →
        Traps (exec i s) s 7#4 s.badVAddr) ∧
      (i ∈ parts → (∃ p ∈ wordSpan (alignedWord a), s.mapped p = false) →
        Traps (exec i s) s 7#4 s.badVAddr))

/-- The load pseudoinstructions of general registers: `ld` the two words at `a` and `a + 4`, in this order of
registers in both byte orders; `ulh`, `ulhu` and `ulw` the halfword or word at any address (R285, R292 to R294);
`mfc1.d` the two words of a floating point pair (R336). The load of the last word, if any, is in its delay then (R472). -/
def Obligations.LoadPseudoinstructions : Prop :=
  ∀ (s : State) (rd base fs : RegIdx) (k : Half), s.Settled →
    let a := s.ea k base
    (wellFormed (.pLd rd k base) = true → a.toNat % 4 = 0 → s.CanAccess a (wordSpan a) →
      s.CanAccess (a + 4#32) (wordSpan (a + 4#32)) →
      PseudoLoads (.pLd rd k base) s [(rd, s.word a), (rd + 1#5, s.word (a + 4#32))] false
        (some (.gpr (rd + 1#5) false))) ∧
    (wellFormed (.pUlh rd k base) = true → s.CanAccess a [a] → s.CanAccess (a + 1#32) [a + 1#32] →
      PseudoLoads (.pUlh rd k base) s [(rd, BitVec.ofInt 32 (s.half a).toInt)] true none ∧
      PseudoLoads (.pUlhu rd k base) s [(rd, BitVec.ofNat 32 (s.half a).toNat)] true none) ∧
    (wellFormed (.pUlw rd k base) = true → s.CanAccess a (wordSpan (alignedWord a)) →
      s.CanAccess (a + 3#32) (wordSpan (alignedWord (a + 3#32))) →
      PseudoLoads (.pUlw rd k base) s [(rd, s.word a)] false (some (.gpr rd true))) ∧
    (wellFormed (.pMfc1D rd fs) = true →
      PseudoLoads (.pMfc1D rd fs) s [(rd, s.f fs), (rd + 1#5, s.f (fs + 1#5))] false
        (some (.gpr (rd + 1#5) false)))

/-- `l.d` loads the 64-bit value at `a` in the machine's byte order into the pair, `l.s` the word at the address its
operand denotes, for every form of the operand; the load of the last word is in its delay then (R116, R119, R371,
R372, R472). -/
def Obligations.FpLoadPseudoinstructions : Prop :=
  ∀ (s : State) (fd base : RegIdx) (k : Half) (addr : Address), s.Settled →
    let a := s.ea k base
    let b := s.addressValue addr
    (wellFormed (.pLoadD fd k base) = true → a.toNat % 4 = 0 → s.CanAccess a (wordSpan a) →
      s.CanAccess (a + 4#32) (wordSpan (a + 4#32)) →
      PseudoLoadsFp (.pLoadD fd k base) s
        (if s.params.bigEndian = true then [(fd + 1#5, s.word a), (fd, s.word (a + 4#32))]
          else [(fd, s.word a), (fd + 1#5, s.word (a + 4#32))]) false
        (if s.params.bigEndian = true then fd else fd + 1#5)) ∧
    (wellFormed (.pLoadS fd addr) = true → b.toNat % 4 = 0 → s.CanAccess b (wordSpan b) →
      PseudoLoadsFp (.pLoadS fd addr) s [(fd, s.word b)] (Machine.Address.usesAt addr) fd)

/-! Stores. -/

/-- `sb`, `sh`, `sw` and `swc1` store the low byte, the low halfword or the word at `x[rs] + sext_16(imm16)`, in the
machine's byte order, and change nothing else (R310, R311, R313 to R315). -/
def Obligations.AlignedStores : Prop :=
  ∀ (s : State) (rt rs : RegIdx) (imm : Half),
    let a := s.ea imm rs
    let big := s.params.bigEndian
    (s.CanAccess a [a] →
      StoresBytes (exec (.sb rt imm rs) s) s
        (fun p => if p = a then some ((s.x rt).extractLsb' 0 8) else none)) ∧
    (a.toNat % 2 = 0 → s.CanAccess a [a, a + 1#32] →
      StoresBytes (exec (.sh rt imm rs) s) s (storedHalf big a ((s.x rt).extractLsb' 0 16))) ∧
    (a.toNat % 4 = 0 → s.CanAccess a (wordSpan a) →
      StoresBytes (exec (.sw rt imm rs) s) s (storedWord big a (s.x rt)) ∧
      StoresBytes (exec (.swc1 rt imm rs) s) s (storedWord big a (s.f rt)))

/-- `swl` and `swr` store the bytes that `lwl` and `lwr` would load, to the addresses they would load them from, in
both byte orders at every offset in the word, and no other byte (R316, R317). -/
def Obligations.UnalignedStoresMirrorLoads : Prop :=
  ∀ (s : State) (rt rs : RegIdx) (imm : Half),
    let a := s.ea imm rs
    let b := a.toNat % 4
    let v := s.x rt
    s.CanAccess a (wordSpan (a - BitVec.ofNat 32 b)) →
    StoresBytes (exec (.swl rt imm rs) s) s (fun p =>
      if s.params.bigEndian = true then
        if (p - a).toNat ≤ 3 - b then some (v.extractLsb' (8 * (3 - (p - a).toNat)) 8) else none
      else
        if (a - p).toNat ≤ b then some (v.extractLsb' (8 * (3 - (a - p).toNat)) 8) else none) ∧
    StoresBytes (exec (.swr rt imm rs) s) s (fun p =>
      if s.params.bigEndian = true then
        if (a - p).toNat ≤ b then some (v.extractLsb' (8 * (a - p).toNat) 8) else none
      else
        if (p - a).toNat ≤ 3 - b then some (v.extractLsb' (8 * (p - a).toNat) 8) else none)

/-- Where a store does not complete it traps and no byte changes: ADDRS with `BadVAddr` the address for a misaligned
one, then for one that `ENFORCE_KUSEG` denies, then DBUS, `BadVAddr` unchanged; a misaligned `swc0`, `swc2` or `swc3`
too, before its mode and register are looked at, and in kernel mode a `swc0` of a described register (R68, R310, R315,
R413, R415, R421). That order is the model's reading (notes/assumptions 13), and so is DBUS for `swl` and `swr` when
any byte of the aligned word is unmapped (notes/assumptions 29). That a load in its delay stays in it through trap
entry is the model's reading (notes/assumptions 15). -/
def Obligations.FaultingStoresTrap : Prop :=
  ∀ (s : State) (rt rs : RegIdx) (imm : Half) (i : Instr),
    let a := s.ea imm rs
    let denied := s.params.enforceKuseg = true ∧ s.userMode = true ∧ 0x80000000 ≤ a.toNat
    let words := [Instr.sw rt imm rs, .swc1 rt imm rs]
    let coprocessorWords := [Instr.swc0 rt imm rs, .swc2 rt imm rs, .swc3 rt imm rs]
    let parts := [Instr.swl rt imm rs, .swr rt imm rs]
    (i = .sh rt imm rs → a.toNat % 2 ≠ 0 → Traps (exec i s) s 5#4 a) ∧
    (i ∈ words ++ coprocessorWords → a.toNat % 4 ≠ 0 → Traps (exec i s) s 5#4 a) ∧
    (i ∈ [.sb rt imm rs, .sh rt imm rs] ++ words ++ parts → denied → Traps (exec i s) s 5#4 a) ∧
    (¬ denied →
      (i = .sb rt imm rs → s.mapped a = false → Traps (exec i s) s 7#4 s.badVAddr) ∧
      (i = .sh rt imm rs → a.toNat % 2 = 0 → (∃ p ∈ [a, a + 1#32], s.mapped p = false) →
        Traps (exec i s) s 7#4 s.badVAddr) ∧
      (i ∈ words ∨ (i = .swc0 rt imm rs ∧ s.userMode = false ∧ rt ∈ [8#5, 12#5, 13#5, 14#5]) → a.toNat % 4 = 0 →
        (∃ p ∈ wordSpan a, s.mapped p = false) → Traps (exec i s) s 7#4 s.badVAddr) ∧
      (i ∈ parts → (∃ p ∈ wordSpan (alignedWord a), s.mapped p = false) →
        Traps (exec i s) s 7#4 s.badVAddr))

/-- The store pseudoinstructions: `sd` the two registers at `a` and `a + 4`; `ush` and `usw` the halfword or word at any
address, in the machine's byte order; `s.d` the pair as one 64-bit value, `s.s` the word at the address its operand
denotes (R312, R318, R319, R379, R380). That `$at` holds the shifted register after `ush` follows R318 against R121 (b)
and is the model's reading (notes/assumptions 19). -/
def Obligations.StorePseudoinstructions : Prop :=
  ∀ (s : State) (rs base fs : RegIdx) (k : Half) (addr : Address), s.Settled →
    let a := s.ea k base
    let b := s.addressValue addr
    let big := s.params.bigEndian
    (wellFormed (.pSd rs k base) = true → a.toNat % 4 = 0 → s.CanAccess a (wordSpan a) →
      s.CanAccess (a + 4#32) (wordSpan (a + 4#32)) →
      PseudoStores (.pSd rs k base) s
        (fun p => (storedWord big a (s.x rs) p).or (storedWord big (a + 4#32) (s.x (rs + 1#5)) p))
        (· = readSlot s.gpr regAt)) ∧
    (wellFormed (.pUsh rs k base) = true → s.CanAccess a [a] → s.CanAccess (a + 1#32) [a + 1#32] →
      PseudoStores (.pUsh rs k base) s (storedHalf big a ((s.x rs).extractLsb' 0 16))
        (· = BitVec.ofNat 32 ((s.x rs).toNat / 256))) ∧
    (wellFormed (.pUsw rs k base) = true → s.CanAccess a (wordSpan (alignedWord a)) →
      s.CanAccess (a + 3#32) (wordSpan (alignedWord (a + 3#32))) →
      PseudoStores (.pUsw rs k base) s (storedWord big a (s.x rs)) (· = readSlot s.gpr regAt)) ∧
    (wellFormed (.pStoreD fs k base) = true → a.toNat % 4 = 0 → s.CanAccess a (wordSpan a) →
      s.CanAccess (a + 4#32) (wordSpan (a + 4#32)) →
      PseudoStores (.pStoreD fs k base) s
        (fun p => if big = true
          then (storedWord big a (s.f (fs + 1#5)) p).or (storedWord big (a + 4#32) (s.f fs) p)
          else (storedWord big a (s.f fs) p).or (storedWord big (a + 4#32) (s.f (fs + 1#5)) p))
        (· = readSlot s.gpr regAt)) ∧
    (wellFormed (.pStoreS fs addr) = true → b.toNat % 4 = 0 → s.CanAccess b (wordSpan b) →
      PseudoStores (.pStoreS fs addr) s (storedWord big b (s.f fs))
        (fun v => Machine.Address.usesAt addr = false → v = readSlot s.gpr regAt))

/-- The pseudoinstructions of two words, `ld`, `sd`, `l.d` and `s.d`, take the exceptions of each word separately. An
exception of the first word leaves nothing done; one of the second leaves the first word moved, `EPC` at the second
word of the expansion and `BadVAddr` for an address error at the second address (R72, R121 d, e, R285, R312, R371, R379,
R426). That a load stays in its delay through the trap entry is the model's reading (notes/assumptions 15). -/
def Obligations.DoubleWordsFaultByWord : Prop :=
  ∀ (s : State) (r base : RegIdx) (k : Half) (fault : BitVec 4 × Word), s.Settled →
    let a := s.ea k base
    let b := a + 4#32
    let big := s.params.bigEndian
    let loads := s.wordFault 4#4
    let stores := s.wordFault 5#4
    let unmoved := fun t : State => SameGpr s t ∧ SameHiLo s t ∧ SameFp s t ∧ SameMemory s t ∧
      t.loadPending = s.loadPending
    let stored := fun (v : Word) (t : State) => SameGpr s t ∧ SameHiLo s t ∧ SameFp s t ∧
      (∀ p, t.byte p = (storedWord big a v p).getD (s.byte p)) ∧
      Remembers s t (fun p => (storedWord big a v p).isSome = true) ∧ t.loadPending = none
    let delayed := fun (l : LoadPending) (t : State) =>
      t.loadPending = if s.params.loadDelaySlot = true then some l else none
    let first := if big = true then r + 1#5 else r
    (wellFormed (.pLd r k base) = true →
      (loads a = some fault → PseudoFaults (.pLd r k base) s fault 0 unmoved) ∧
      (loads a = none → loads b = some fault → PseudoFaults (.pLd r k base) s fault 1 fun t =>
        GprWritten s t r (s.word a) ∧ SameHiLo s t ∧ SameFp s t ∧ SameMemory s t ∧ delayed (.gpr r false) t)) ∧
    (wellFormed (.pSd r k base) = true →
      (stores a = some fault → PseudoFaults (.pSd r k base) s fault 0 unmoved) ∧
      (stores a = none → stores b = some fault →
        PseudoFaults (.pSd r k base) s fault 1 (stored (s.x r)))) ∧
    (wellFormed (.pLoadD r k base) = true →
      (loads a = some fault → PseudoFaults (.pLoadD r k base) s fault 0 unmoved) ∧
      (loads a = none → loads b = some fault → PseudoFaults (.pLoadD r k base) s fault 1 fun t =>
        FprWritten s t first (s.word a) ∧ t.cc1 = s.cc1 ∧ SameGpr s t ∧ SameHiLo s t ∧ SameMemory s t ∧
          delayed (.fpr first) t)) ∧
    (wellFormed (.pStoreD r k base) = true →
      (stores a = some fault → PseudoFaults (.pStoreD r k base) s fault 0 unmoved) ∧
      (stores a = none → stores b = some fault →
        PseudoFaults (.pStoreD r k base) s fault 1 (stored (s.f first))))

/-! Coprocessors 1 and 0, exceptions. -/

/-- The moves and the load between memory, general and floating point registers, any of the 32, bits unchanged (R289,
R335, R337). -/
def Obligations.FpRegisterMoves : Prop :=
  ∀ (s : State) (rt r rs : RegIdx) (imm : Half),
    let a := s.ea imm rs
    LoadsGpr (exec (.mfc1 rt r) s) s rt (s.f r) false ∧
    LoadsFpr (exec (.mtc1 rt r) s) s r (s.x rt) ∧
    (a.toNat % 4 = 0 → s.CanAccess a (wordSpan a) → LoadsFpr (exec (.lwc1 r imm rs) s) s r (s.word a))

/-- In kernel mode `mfc0` and `swc0` read `BadVAddr`, `EPC`, and the described bits of `Status` and `Cause`; the other
bits are any value (R35, R36, R38, R40, R315, R335). -/
def Obligations.Cop0ReadsInKernelMode : Prop :=
  ∀ (s : State) (rt rs : RegIdx) (imm : Half), s.userMode = false → s.params.wf = true →
    let a := s.ea imm rs
    let statusLike := fun v : Word =>
      ∀ i : Nat, i < 32 → StatusBit s.params i → v.getLsbD i = s.status.getLsbD i
    let causeLike := fun v : Word => v.extractLsb' 2 4 = s.excCode ∧ v.getLsbD 31 = s.bd ∧
      ∀ l : Fin 5, v.getLsbD s.params.intBit[l] = s.intLines.getLsbD l
    LoadsGpr (exec (.mfc0 rt 8#5) s) s rt s.badVAddr false ∧
    LoadsGpr (exec (.mfc0 rt 14#5) s) s rt s.epc false ∧
    (∃ v, statusLike v ∧ LoadsGpr (exec (.mfc0 rt 12#5) s) s rt v false) ∧
    (∃ v, causeLike v ∧ LoadsGpr (exec (.mfc0 rt 13#5) s) s rt v false) ∧
    (a.toNat % 4 = 0 → s.CanAccess a (wordSpan a) →
      StoresBytes (exec (.swc0 8#5 imm rs) s) s (storedWord s.params.bigEndian a s.badVAddr) ∧
      StoresBytes (exec (.swc0 14#5 imm rs) s) s (storedWord s.params.bigEndian a s.epc) ∧
      (∃ v, statusLike v ∧
        StoresBytes (exec (.swc0 12#5 imm rs) s) s (storedWord s.params.bigEndian a v)) ∧
      (∃ v, causeLike v ∧
        StoresBytes (exec (.swc0 13#5 imm rs) s) s (storedWord s.params.bigEndian a v)))

/-- In kernel mode `mtc0` and `lwc0` write the stack and the mask bits of `Status`; a 1 in any other bit is refused,
and so is every other register number, for `lwc0` once the address has passed its checks and for `swc0` once it has
been found aligned (R36, R38, R40, R289, R315, R335, R337). That the address comes before the register number is the
model's reading (notes/assumptions 13). -/
def Obligations.Cop0WritesInKernelMode : Prop :=
  ∀ (s : State) (rt rd rs : RegIdx) (imm : Half), s.userMode = false →
    let a := s.ea imm rs
    let allowed := fun v : Word => ∀ i : Nat, i < 32 → v.getLsbD i = true → StatusBit s.params i
    (allowed (s.x rt) → WritesStatus (exec (.mtc0 rt 12#5) s) s (s.x rt)) ∧
    (¬ allowed (s.x rt) → exec (.mtc0 rt 12#5) s = .refused .statusBitNotDescribed) ∧
    (a.toNat % 4 = 0 → s.CanAccess a (wordSpan a) →
      (allowed (s.word a) → WritesStatus (exec (.lwc0 12#5 imm rs) s) s (s.word a)) ∧
      (¬ allowed (s.word a) → exec (.lwc0 12#5 imm rs) s = .refused .statusBitNotDescribed) ∧
      (rd ∈ [8#5, 13#5, 14#5] → exec (.lwc0 rd imm rs) s = .refused .cp0RegisterReadOnly) ∧
      (rd ∉ [8#5, 12#5, 13#5, 14#5] → exec (.lwc0 rd imm rs) s = .refused .cp0RegisterNotDescribed)) ∧
    (a.toNat % 4 = 0 → rd ∉ [8#5, 12#5, 13#5, 14#5] →
      exec (.swc0 rd imm rs) s = .refused .cp0RegisterNotDescribed) ∧
    (rd ∈ [8#5, 13#5, 14#5] → exec (.mtc0 rt rd) s = .refused .cp0RegisterReadOnly) ∧
    (rd ∉ [8#5, 12#5, 13#5, 14#5] →
      exec (.mtc0 rt rd) s = .refused .cp0RegisterNotDescribed ∧
      exec (.mfc0 rt rd) s = .refused .cp0RegisterNotDescribed)

/-- The model's choice (notes/assumptions 12), which R437 permits: in user mode the coprocessor-0 instructions take
the reserved instruction exception, whatever their registers; `lwc0` and `swc0` where they do not take the exception
of their address first, which FaultingLoadsTrap and FaultingStoresTrap state (notes/assumptions 13). That a load in
its delay stays in it through trap entry is the model's reading (notes/assumptions 15). -/
def Obligations.Cop0TrapsInUserMode : Prop :=
  ∀ (s : State) (rt rd rs : RegIdx) (imm : Half) (i : Instr), s.userMode = true →
    let a := s.ea imm rs
    (i ∈ [.mfc0 rt rd, .mtc0 rt rd, .rfe] → Traps (exec i s) s 10#4 s.badVAddr) ∧
    (a.toNat % 4 = 0 → s.CanAccess a (wordSpan a) → Traps (exec (.lwc0 rt imm rs) s) s 10#4 s.badVAddr) ∧
    (a.toNat % 4 = 0 → Traps (exec (.swc0 rt imm rs) s) s 10#4 s.badVAddr)

/-- `rfe` in kernel mode pops the stack, `KUc, IEc` from `KUp, IEp` and these from `KUo, IEo`, which stay; it does not
jump (R400). -/
def Obligations.RfePopsTheStack : Prop :=
  ∀ (s : State), s.userMode = false →
    ∃ t, exec .rfe s = .next t ∧
      (∀ i : Nat, t.status.getLsbD i =
        if i < 4 then s.status.getLsbD (i + 2) else s.status.getLsbD i) ∧
      SameGpr s t ∧ SameHiLo s t ∧ SameFp s t ∧ SameMemory s t ∧ t.params = s.params ∧
      t.excCode = s.excCode ∧ t.bd = s.bd ∧ t.epc = s.epc ∧ t.badVAddr = s.badVAddr ∧
      t.intLines = s.intLines ∧ t.intSchedule = s.intSchedule ∧ GoesOn s t ∧ t.loadPending = none

/-- Trap entry, in order: `EPC`, the exception code with `BD` 0, `BadVAddr` for ADDRL and ADDRS only, the stack pushed
with the current bits 0, `pc` at the vector, and nothing else (R425); for the instruction in a delay slot `EPC` is the
branch and `BD` 1 (R471 d). That a load in its delay stays in it through trap entry is the model's reading
(notes/assumptions 15). -/
def Obligations.TrapEntryPushesAndRecords : Prop :=
  ∀ (s : State) (info : Word),
    Traps (s.raise .addrl info).outcome s 4#4 info ∧ Traps (s.raise .addrs info).outcome s 5#4 info ∧
    ∀ p ∈ [(Exc.int, 0#4), (.ibus, 6#4), (.dbus, 7#4), (.syscall, 8#4), (.bkpt, 9#4), (.ri, 10#4), (.ovf, 12#4)],
      Traps (s.raise p.1 info).outcome s p.2 s.badVAddr

/-- `break` raises BKPT and, as a trap, `syscall` raises SYSCALL, in every state and whatever their code fields: `EPC`
is the instruction, the mode stack is pushed, nothing else changes (R401, R402, R417, R418, R425). That a load in its
delay stays in it through trap entry is the model's reading (notes/assumptions 15). -/
def Obligations.SyscallAndBreakTrap : Prop :=
  ∀ (s : State) (code : BitVec 20),
    Traps (exec (.brk code) s) s 9#4 s.badVAddr ∧
    (s.params.syscallMode = .trap → Traps (exec (.syscall code) s) s 8#4 s.badVAddr)

/-- With host services `syscall` applies the environment's function to the registers and memory: it ends the run, or
the machine goes on with the registers and the bytes it returned, an address named twice with the last byte for it,
every other byte and register 0 as before (R401, R445). It is the model's choice (notes/assumptions 22) which
registers the function sees, that register 0 and the bytes without memory stay, which byte of two for one address
stays, that the bytes count as stored ones where a fetch may miss a store, and that `cc[1]` and the registers of
coprocessor 0 are not the function's to change. -/
def Obligations.SyscallHostService : Prop :=
  ∀ (s : State) (code : BitVec 20), s.params.syscallMode = .hostService →
    let view : HostView :=
      { service := s.x 2#5, pc := s.pc, gpr := s.gpr, hi := s.hi, lo := s.lo, fpr := s.fpr, cc1 := s.cc1,
        status := s.status, excCode := s.excCode, bd := s.bd, intLines := s.intLines, epc := s.epc,
        badVAddr := s.badVAddr, mem := s.mem }
    match Config.hostService view with
    | none => exec (.syscall code) s = .fault .hostEndedRun
    | some r => ∃ t, exec (.syscall code) s = .next t ∧
        readSlot t.gpr 0#5 = readSlot s.gpr 0#5 ∧
        (∀ q, q ≠ 0#5 → readSlot t.gpr q = readSlot r.gpr q) ∧ t.hi = r.hi ∧ t.lo = r.lo ∧ t.fpr = r.fpr ∧
        t.cc1 = s.cc1 ∧
        (∀ a, a ∉ r.writes.map Prod.fst ∨ s.mapped a = false → t.byte a = s.byte a) ∧
        (∀ earlier later a b, r.writes = earlier ++ (a, b) :: later → a ∉ later.map Prod.fst →
          s.mapped a = true → t.byte a = b) ∧
        Remembers s t (fun a => a ∈ r.writes.map Prod.fst ∧ s.mapped a = true) ∧
        SameSystem s t ∧ GoesOn s t ∧ t.loadPending = none

/-! Floating point. -/

/-- The floating point arithmetic, conversions and moves write their result into the destination, a double into the
pair, and nothing else, for even registers; the two copies leave every bit as it is whatever the numerics (R350, R351,
R353 to R356, R363 to R370, R373 to R378, R381, R382). -/
def Obligations.FpResultsWritten : Prop :=
  ∀ (s : State) (fd fs ft : RegIdx), evenReg fd = true → evenReg fs = true → evenReg ft = true →
    let p := s.params.fpNumerics
    let single := fun (i : Instr) (v : Word) => WritesFp (exec i s) s (fun t => FprWritten s t fd v)
    let double := fun (i : Instr) (v : DWord) => WritesFp (exec i s) s (fun t => FprPairWritten s t fd v)
    single (.addS fd fs ft) (fpBinS p .add (s.f fs) (s.f ft)) ∧
    single (.subS fd fs ft) (fpBinS p .sub (s.f fs) (s.f ft)) ∧
    single (.mulS fd fs ft) (fpBinS p .mul (s.f fs) (s.f ft)) ∧
    single (.divS fd fs ft) (fpBinS p .div (s.f fs) (s.f ft)) ∧
    double (.addD fd fs ft) (fpBinD p .add (s.fd fs) (s.fd ft)) ∧
    double (.subD fd fs ft) (fpBinD p .sub (s.fd fs) (s.fd ft)) ∧
    double (.mulD fd fs ft) (fpBinD p .mul (s.fd fs) (s.fd ft)) ∧
    double (.divD fd fs ft) (fpBinD p .div (s.fd fs) (s.fd ft)) ∧
    single (.absS fd fs) (fpUnS p .abs (s.f fs)) ∧ double (.absD fd fs) (fpUnD p .abs (s.fd fs)) ∧
    single (.negS fd fs) (fpUnS p .neg (s.f fs)) ∧ double (.negD fd fs) (fpUnD p .neg (s.fd fs)) ∧
    single (.movS fd fs) (s.f fs) ∧ double (.movD fd fs) (s.fd fs) ∧
    double (.cvtDS fd fs) (fpCvtDS p (s.f fs)) ∧ double (.cvtDW fd fs) (fpCvtDW p (s.f fs)) ∧
    single (.cvtSD fd fs) (fpCvtSD p (s.fd fs)) ∧ single (.cvtSW fd fs) (fpCvtSW p (s.f fs)) ∧
    single (.cvtWD fd fs)
      (fpCvtWD p (Config.freeWord s.freeCount .convertedInt) (s.fd fs)) ∧
    single (.cvtWS fd fs)
      (fpCvtWS p (Config.freeWord s.freeCount .convertedInt) (s.f fs))

/-- The floating point comparisons write the condition flag, true or false, and nothing else, for even registers (R34,
R357 to R362). -/
def Obligations.FpComparesSetTheFlag : Prop :=
  ∀ (s : State) (fs ft : RegIdx), evenReg fs = true → evenReg ft = true →
    let p := s.params.fpNumerics
    SetsFlag (exec (.cEqS fs ft) s) s (fpCmpS p .eq (s.f fs) (s.f ft)) ∧
    SetsFlag (exec (.cLtS fs ft) s) s (fpCmpS p .lt (s.f fs) (s.f ft)) ∧
    SetsFlag (exec (.cLeS fs ft) s) s (fpCmpS p .le (s.f fs) (s.f ft)) ∧
    SetsFlag (exec (.cEqD fs ft) s) s (fpCmpD p .eq (s.fd fs) (s.fd ft)) ∧
    SetsFlag (exec (.cLtD fs ft) s) s (fpCmpD p .lt (s.fd fs) (s.fd ft)) ∧
    SetsFlag (exec (.cLeD fs ft) s) s (fpCmpD p .le (s.fd fs) (s.fd ft))

/-- A floating point instruction of 46_float.md that names an odd register is refused, every one of them (R41, R350). -/
def Obligations.OddFpRegistersRefused : Prop :=
  ∀ (s : State) (fd fs ft : RegIdx) (i : Instr),
    ((evenReg fd = false ∨ evenReg fs = false ∨ evenReg ft = false) →
      i ∈ [.addS fd fs ft, .addD fd fs ft, .subS fd fs ft, .subD fd fs ft, .mulS fd fs ft, .mulD fd fs ft,
        .divS fd fs ft, .divD fd fs ft] → exec i s = .refused .oddFpRegister) ∧
    ((evenReg fd = false ∨ evenReg fs = false) →
      i ∈ [.absS fd fs, .absD fd fs, .negS fd fs, .negD fd fs, .movS fd fs, .movD fd fs, .cvtDS fd fs,
        .cvtDW fd fs, .cvtSD fd fs, .cvtSW fd fs, .cvtWD fd fs, .cvtWS fd fs] →
      exec i s = .refused .oddFpRegister) ∧
    ((evenReg fs = false ∨ evenReg ft = false) →
      i ∈ [.cEqS fs ft, .cLtS fs ft, .cLeS fs ft, .cEqD fs ft, .cLtD fs ft, .cLeD fs ft] →
      exec i s = .refused .oddFpRegister)

/-- Under the suggested numerics, single and double: a comparison with a not-a-number is false; of two numbers the less
is the one with the lesser signed magnitude, the exponent and fraction bits read as an integer with the sign of the
sign bit, so that +0 equals -0; `abs` clears and `neg` inverts the sign bit and nothing else (R351). Which bits the
suggested numerics give is taken from IEEE 754 (notes/assumptions 26). -/
def Obligations.Ieee754Comparisons : Prop :=
  (∀ a b : Word,
    let nan := fun v : Word => v.extractLsb' 23 8 = 0xff#8 ∧ v.extractLsb' 0 23 ≠ 0#23
    let key := fun v : Word =>
      if v.getLsbD 31 = true then -((v.extractLsb' 0 31).toNat : Int) else (v.extractLsb' 0 31).toNat
    ((nan a ∨ nan b) → ∀ op, fpCmpS .ieee754 op a b = false) ∧
    (¬ nan a → ¬ nan b →
      fpCmpS .ieee754 .lt a b = decide (key a < key b) ∧ fpCmpS .ieee754 .le a b = decide (key a ≤ key b) ∧
      fpCmpS .ieee754 .eq a b = decide (key a = key b)) ∧
    fpUnS .ieee754 .abs a = 0#1 ++ a.extractLsb' 0 31 ∧
    fpUnS .ieee754 .neg a = (~~~(a.extractLsb' 31 1)) ++ a.extractLsb' 0 31) ∧
  (∀ a b : DWord,
    let nan := fun v : DWord => v.extractLsb' 52 11 = 0x7ff#11 ∧ v.extractLsb' 0 52 ≠ 0#52
    let key := fun v : DWord =>
      if v.getLsbD 63 = true then -((v.extractLsb' 0 63).toNat : Int) else (v.extractLsb' 0 63).toNat
    ((nan a ∨ nan b) → ∀ op, fpCmpD .ieee754 op a b = false) ∧
    (¬ nan a → ¬ nan b →
      fpCmpD .ieee754 .lt a b = decide (key a < key b) ∧ fpCmpD .ieee754 .le a b = decide (key a ≤ key b) ∧
      fpCmpD .ieee754 .eq a b = decide (key a = key b)) ∧
    fpUnD .ieee754 .abs a = 0#1 ++ a.extractLsb' 0 63 ∧
    fpUnD .ieee754 .neg a = (~~~(a.extractLsb' 63 1)) ++ a.extractLsb' 0 63)

/-- Under the suggested numerics every 32-bit integer converts to a double exactly: converting it back gives it again
(R364, R367). Which bits the suggested numerics give is taken from IEEE 754 (notes/assumptions 26). -/
def Obligations.IntegerDoubleRoundTrip : Prop :=
  ∀ (free a : Word), fpCvtWD .ieee754 free (fpCvtDW .ieee754 a) = a

/-! Pseudoinstructions that compute. -/

/-- The register pseudoinstructions without a test: `negu`, `not`, `move`, `nop`, `li`, `la`; `neg`, which raises OVF for
MIN and writes nothing then; and `abs`, which raises it for MIN at its `sub`, its `Rdest` then holding the copy MIN
(R142, R158, R159, R161, R200, R282, R330, R403). That a load in its delay stays in it through the trap entry of `neg`
is the model's reading (notes/assumptions 15). -/
def Obligations.MovePseudoinstructions : Prop :=
  ∀ (s : State) (rd rs : RegIdx) (k : Word) (addr : Address), s.Settled → notAt rd = true →
    (notAt rs = true →
      PseudoWrites (.pNegu rd rs) s rd (BitVec.ofInt 32 (-(s.x rs).toInt)) false (KeepsHiLo s) ∧
      PseudoWrites (.pNot rd rs) s rd (~~~(s.x rs)) false (KeepsHiLo s) ∧
      PseudoWrites (.pMove rd rs) s rd (s.x rs) false (KeepsHiLo s) ∧
      (s.x rs ≠ 0x80000000#32 →
        PseudoWrites (.pNeg rd rs) s rd (BitVec.ofInt 32 (-(s.x rs).toInt)) false (KeepsHiLo s) ∧
        PseudoWrites (.pAbs rd rs) s rd (BitVec.ofNat 32 (s.x rs).toInt.natAbs) false (KeepsHiLo s)) ∧
      (s.x rs = 0x80000000#32 →
        PseudoFaults (.pNeg rd rs) s (12#4, s.badVAddr) 0 (fun t =>
          SameGpr s t ∧ SameHiLo s t ∧ SameFp s t ∧ SameMemory s t ∧ t.loadPending = s.loadPending) ∧
        PseudoFaults (.pAbs rd rs) s (12#4, s.badVAddr) (if s.params.branchDelaySlot = true then 3 else 2) (fun t =>
          GprWritten s t rd 0x80000000#32 ∧ SameHiLo s t ∧ SameFp s t ∧ SameMemory s t ∧ t.loadPending = none))) ∧
    PseudoWrites .pNop s 0#5 0#32 false (KeepsHiLo s) ∧
    PseudoWrites (.pLi rd k) s rd k false (KeepsHiLo s) ∧
    (addr.notAt = true → PseudoWrites (.pLa rd addr) s rd (s.addressValue addr) (Machine.Address.usesAt addr) (KeepsHiLo s))

/-- The set pseudoinstructions write 1 where their comparison holds and 0 where it does not, with a register or a
constant (R202 to R208, R213, R214). -/
def Obligations.SetPseudoinstructions : Prop :=
  ∀ (s : State) (rd rs : RegIdx) (src : Src2), s.Settled →
    notAt rd = true → notAt rs = true → src.notAt = true →
    let a := s.x rs
    let b := s.srcValue src
    let sets := fun (i : Instr) (c : Bool) =>
      PseudoWrites i s rd (if c = true then 1#32 else 0#32) (Src2.isConst src) (KeepsHiLo s)
    sets (.pSeq rd rs src) (decide (a = b)) ∧ sets (.pSne rd rs src) (decide (a ≠ b)) ∧
    sets (.pSge rd rs src) (decide (b.toInt ≤ a.toInt)) ∧
    sets (.pSgeu rd rs src) (decide (b.toNat ≤ a.toNat)) ∧
    sets (.pSgt rd rs src) (decide (b.toInt < a.toInt)) ∧
    sets (.pSgtu rd rs src) (decide (b.toNat < a.toNat)) ∧
    sets (.pSle rd rs src) (decide (a.toInt ≤ b.toInt)) ∧
    sets (.pSleu rd rs src) (decide (a.toNat ≤ b.toNat))

/-- The multiply pseudoinstructions: the low word of the product, `hi` and `lo` the whole of it; `mulo` and `mulou` break
where the product does not fit, which leaves `Rdest` of `mulou` alone and the whole product in `hi` and `lo` (R153 to
R155, R178, R121 e). -/
def Obligations.MultiplyPseudoinstructions : Prop :=
  ∀ (s : State) (rd rs : RegIdx) (src : Src2), s.Settled →
    notAt rd = true → notAt rs = true → src.notAt = true →
    let p := (s.x rs).toInt * (s.srcValue src).toInt
    let u := (s.x rs).toNat * (s.srcValue src).toNat
    let k := constantWords src
    let d := if s.params.branchDelaySlot = true then 1 else 0
    let signed := fun h l : Word => (h ++ l : DWord).toInt = p
    PseudoWrites (.pMul rd rs src) s rd (BitVec.ofInt 32 p) (Src2.isConst src) signed ∧
    (rd ≠ 0#5 →
      if -2 ^ 31 ≤ p ∧ p ≤ 2 ^ 31 - 1
        then PseudoWrites (.pMulo rd rs src) s rd (BitVec.ofInt 32 p) true signed
        else PseudoBreaks (.pMulo rd rs src) s (k + 5 + d) [rd, regAt] signed) ∧
    (if u < 2 ^ 32
      then PseudoWrites (.pMulou rd rs src) s rd (BitVec.ofNat 32 u) true
        (fun h l => (h ++ l : DWord).toNat = u)
      else PseudoBreaks (.pMulou rd rs src) s (k + 3 + d) [regAt] (fun h l => (h ++ l : DWord).toNat = u))

/-- The three-operand divides and the remainders: `break 7` for a zero divisor and, for `div`, `break 6` for MIN by -1,
both leaving `Rdest` alone, the first `hi` and `lo` too; else the quotient or the remainder of R179, `hi` and `lo`
overwritten (R151, R152, R164, R165, R178, R179). That `rem` of MIN by -1 has no `break 6`, as R402's sentence would have
it, is the model's reading (notes/assumptions 32). -/
def Obligations.DividePseudoinstructions : Prop :=
  ∀ (s : State) (rd rs : RegIdx) (src : Src2), s.Settled →
    notAt rd = true → notAt rs = true → src.notAt = true →
    let a := s.x rs
    let b := s.srcValue src
    let k := constantWords src
    let d := if s.params.branchDelaySlot = true then 1 else 0
    let c := Src2.isConst src
    (b = 0#32 →
      ∀ i ∈ [Instr.pDiv rd rs src, .pDivu rd rs src, .pRem rd rs src, .pRemu rd rs src],
        PseudoBreaks i s (k + 1 + d) (if c = true then [regAt] else []) (KeepsHiLo s)) ∧
    (b ≠ 0#32 →
      PseudoWrites (.pDivu rd rs src) s rd (BitVec.ofNat 32 (a.toNat / b.toNat)) c
        (fun h l => h.toNat = a.toNat % b.toNat ∧ l.toNat = a.toNat / b.toNat) ∧
      PseudoWrites (.pRemu rd rs src) s rd (BitVec.ofNat 32 (a.toNat % b.toNat)) c
        (fun h l => h.toNat = a.toNat % b.toNat ∧ l.toNat = a.toNat / b.toNat) ∧
      (a = 0x80000000#32 ∧ b = 0xffffffff#32 →
        PseudoBreaks (.pDiv rd rs src) s (k + 7 + 3 * d) [regAt] (fun _ _ => True) ∧
        ∃ v, PseudoWrites (.pRem rd rs src) s rd v c (fun _ _ => True)) ∧
      (¬ (a = 0x80000000#32 ∧ b = 0xffffffff#32) →
        (s.params.divNumerics = .trunc ∨ (0 ≤ a.toInt ∧ 0 ≤ b.toInt) →
          PseudoWrites (.pDiv rd rs src) s rd (BitVec.ofInt 32 (a.toInt.tdiv b.toInt)) true
            (fun h l => h.toInt = a.toInt.tmod b.toInt ∧ l.toInt = a.toInt.tdiv b.toInt) ∧
          PseudoWrites (.pRem rd rs src) s rd (BitVec.ofInt 32 (a.toInt.tmod b.toInt)) c
            (fun h l => h.toInt = a.toInt.tmod b.toInt ∧ l.toInt = a.toInt.tdiv b.toInt)) ∧
        (∃ v, (v.toInt = a.toInt.tdiv b.toInt ∨ v.toInt = a.toInt.fdiv b.toInt) ∧
          PseudoWrites (.pDiv rd rs src) s rd v true (fun _ l => l = v)) ∧
        ∃ v, PseudoWrites (.pRem rd rs src) s rd v c (fun h _ => h = v)))

/-- The rotates: the bits that leave at one end enter at the other; only the low five bits of the distance count; with
a register or a constant (R166, R167). -/
def Obligations.RotatePseudoinstructions : Prop :=
  ∀ (s : State) (rd rs rt : RegIdx) (k : Word), s.Settled →
    notAt rd = true → notAt rs = true → notAt rt = true →
    PseudoWrites (.pRol rd rs rt) s rd ((s.x rs).rotateLeft ((s.x rt).toNat % 32)) true (KeepsHiLo s) ∧
    PseudoWrites (.pRor rd rs rt) s rd ((s.x rs).rotateRight ((s.x rt).toNat % 32)) true (KeepsHiLo s) ∧
    PseudoWrites (.pRolConst rd rs k) s rd ((s.x rs).rotateLeft (k.toNat % 32)) true (KeepsHiLo s) ∧
    PseudoWrites (.pRorConst rd rs k) s rd ((s.x rs).rotateRight (k.toNat % 32)) true (KeepsHiLo s)

end
end

