-- ==== Sys2Proof/Laws/Memory.lean ====
section
/-! SUPPORT. What memory's operations do: read after write, the bytes a list of writes leaves alone, and the
canonical form, which every operation keeps. -/

namespace Sys2Proof.Machine

@[simp] theorem Memory.find_put_same (m : List Host.Cell) (a : Nat) (b : Byte) :
    Memory.find (Memory.put m a b) a = some b := by
  induction m with
  | nil => simp [Memory.put, Memory.find]
  | cons c rest ih =>
    obtain ⟨k, d⟩ := c
    simp only [Memory.put]
    split
    · simp [Memory.find]
    · split
      · simp [Memory.find]
      · next h => simp [Memory.find, Ne.symm h, ih]

theorem Memory.find_put_other (m : List Host.Cell) {a a' : Nat} (b : Byte) (h : a' ≠ a) :
    Memory.find (Memory.put m a b) a' = Memory.find m a' := by
  induction m with
  | nil => simp [Memory.put, Memory.find, Ne.symm h]
  | cons c rest ih =>
    obtain ⟨k, d⟩ := c
    simp only [Memory.put]
    split
    · simp [Memory.find, Ne.symm h]
    · split
      · next h' => subst h'; simp [Memory.find, Ne.symm h]
      · simp [Memory.find, ih]

/-- A byte read after a byte written: the value written at that address, the old one elsewhere. -/
theorem Memory.byteAt_put (m : List Host.Cell) (a a' : Nat) (b : Byte) :
    Memory.byteAt (Memory.put m a b) a' = if a' = a then b else Memory.byteAt m a' := by
  by_cases h : a' = a
  · subst h; simp [Memory.byteAt]
  · simp [Memory.byteAt, Memory.find_put_other m b h, h]

@[simp] theorem Memory.putAll_nil (m : List Host.Cell) : Memory.putAll m [] = m := rfl

@[simp] theorem Memory.putAll_cons (m : List Host.Cell) (a : Word) (b : Byte) (rest : List (Word × Byte)) :
    Memory.putAll m ((a, b) :: rest) = Memory.putAll (Memory.put m a.toNat b) rest := rfl

/-- A list of writes leaves every address alone that it does not name. -/
theorem Memory.byteAt_putAll_other (bytes : List (Word × Byte)) (m : List Host.Cell) (a : Word)
    (h : ∀ p ∈ bytes, p.1 ≠ a) : Memory.byteAt (Memory.putAll m bytes) a.toNat = Memory.byteAt m a.toNat := by
  induction bytes generalizing m with
  | nil => rfl
  | cons p rest ih =>
    obtain ⟨k, b⟩ := p
    rw [Memory.putAll_cons, ih _ fun q hq => h q (by simp [hq]), Memory.byteAt_put, if_neg]
    intro e
    exact h (k, b) (by simp) (BitVec.eq_of_toNat_eq e.symm)

/-- After a list of writes to different addresses each of them holds its byte. -/
theorem Memory.byteAt_putAll_mem (bytes : List (Word × Byte)) (m : List Host.Cell) (a : Word) (b : Byte)
    (hn : (bytes.map Prod.fst).Nodup) (h : (a, b) ∈ bytes) :
    Memory.byteAt (Memory.putAll m bytes) a.toNat = b := by
  induction bytes generalizing m with
  | nil => simp at h
  | cons p rest ih =>
    obtain ⟨k, c⟩ := p
    simp only [List.map_cons, List.nodup_cons] at hn
    rw [Memory.putAll_cons]
    rcases List.mem_cons.1 h with h | h
    · obtain ⟨rfl, rfl⟩ := Prod.mk.inj h
      rw [Memory.byteAt_putAll_other rest _ a, Memory.byteAt_put, if_pos rfl]
      intro q hq e
      exact hn.1 (List.mem_map.2 ⟨q, hq, e⟩)
    · exact ih _ hn.2 h

theorem Memory.risingFrom_put (m : List Host.Cell) (lo a : Nat) (b : Byte) (hlo : lo ≤ a) (ha : a < 2 ^ 32)
    (h : Memory.risingFrom lo m = true) : Memory.risingFrom lo (Memory.put m a b) = true := by
  induction m generalizing lo with
  | nil =>
    have ha' : a < 4294967296 := ha
    simp [Memory.put, Memory.risingFrom, hlo, ha']
  | cons c rest ih =>
    obtain ⟨k, d⟩ := c
    simp only [Memory.risingFrom, Bool.and_eq_true, decide_eq_true_eq] at h
    obtain ⟨⟨h1, h2⟩, h3⟩ := h
    simp only [Memory.put]
    split
    · simp only [Memory.risingFrom, Bool.and_eq_true, decide_eq_true_eq]
      exact ⟨⟨hlo, ha⟩, ⟨by omega, h2⟩, h3⟩
    · split
      · next e =>
        subst e
        have ha' : a < 4294967296 := ha
        simp [Memory.risingFrom, hlo, ha', h3]
      · simp only [Memory.risingFrom, Bool.and_eq_true, decide_eq_true_eq]
        exact ⟨⟨h1, h2⟩, ih (k + 1) (by omega) h3⟩

/-- Writing a byte keeps the canonical form. -/
theorem Memory.wf_put (m : List Host.Cell) (a : Nat) (b : Byte) (ha : a < 2 ^ 32) (h : Memory.wf m = true) :
    Memory.wf (Memory.put m a b) = true :=
  Memory.risingFrom_put m 0 a b (Nat.zero_le _) ha h

/-- Writing a list of bytes keeps the canonical form. -/
theorem Memory.wf_putAll (bytes : List (Word × Byte)) (m : List Host.Cell) (h : Memory.wf m = true) :
    Memory.wf (Memory.putAll m bytes) = true := by
  induction bytes generalizing m with
  | nil => exact h
  | cons p rest ih => exact ih _ (Memory.wf_put m _ _ p.1.isLt h)

/-- The set of addresses stored to holds the address added, and those it held (R82). -/
theorem Memory.mem_insertAddress (l : List Nat) (a n : Nat) :
    n ∈ Memory.insertAddress l a ↔ n ∈ l ∨ n = a := by
  induction l with
  | nil => simp [Memory.insertAddress]
  | cons k rest ih =>
    simp only [Memory.insertAddress]
    split
    · simp [or_comm]
    · split
      · next e =>
        subst e
        simp only [List.mem_cons]
        exact ⟨.inl, fun h => h.elim id .inl⟩
      · simp [ih, or_assoc]

/-- The same for the addresses of some bytes. -/
theorem Memory.mem_insertAll (bytes : List (Word × Byte)) (l : List Nat) (n : Nat) :
    n ∈ Memory.insertAll l bytes ↔ n ∈ l ∨ ∃ p, p.toNat = n ∧ p ∈ bytes.map Prod.fst := by
  induction bytes generalizing l with
  | nil => simp [Memory.insertAll]
  | cons c rest ih =>
    rw [Memory.insertAll, ih, Memory.mem_insertAddress, or_assoc]
    refine or_congr Iff.rfl ⟨?_, ?_⟩
    · rintro (rfl | ⟨p, hp, hm⟩)
      · exact ⟨c.1, rfl, by simp⟩
      · exact ⟨p, hp, List.mem_cons_of_mem _ hm⟩
    · rintro ⟨p, hp, hm⟩
      rcases List.mem_cons.mp hm with rfl | hm
      · exact .inl hp.symm
      · exact .inr ⟨p, hp, hm⟩

/-- Memory holds nothing after reset, which is the canonical form. -/
theorem reset_memory_wf : Memory.wf State.reset.mem = true := rfl

end Sys2Proof.Machine
end

