-- ==== Sys2Proof/Laws/State.lean ====
section
/-! SUPPORT. One lemma per field per update of State, so that no proof unfolds a record update. -/

namespace Sys2Proof.Machine

@[simp] theorem State.setX_params (s : State) (r : RegIdx) (v : Word) : (s.setX r v).params = s.params := by
  unfold State.setX; split <;> rfl

@[simp] theorem State.setX_pc (s : State) (r : RegIdx) (v : Word) : (s.setX r v).pc = s.pc := by
  unfold State.setX; split <;> rfl

@[simp] theorem State.setX_gpr (s : State) (r : RegIdx) (v : Word) :
    (s.setX r v).gpr = if r = 0#5 then s.gpr else writeSlot s.gpr r v := by
  unfold State.setX; split <;> rfl

@[simp] theorem State.setX_hi (s : State) (r : RegIdx) (v : Word) : (s.setX r v).hi = s.hi := by
  unfold State.setX; split <;> rfl

@[simp] theorem State.setX_lo (s : State) (r : RegIdx) (v : Word) : (s.setX r v).lo = s.lo := by
  unfold State.setX; split <;> rfl

@[simp] theorem State.setX_fpr (s : State) (r : RegIdx) (v : Word) : (s.setX r v).fpr = s.fpr := by
  unfold State.setX; split <;> rfl

@[simp] theorem State.setX_cc1 (s : State) (r : RegIdx) (v : Word) : (s.setX r v).cc1 = s.cc1 := by
  unfold State.setX; split <;> rfl

@[simp] theorem State.setX_status (s : State) (r : RegIdx) (v : Word) : (s.setX r v).status = s.status := by
  unfold State.setX; split <;> rfl

@[simp] theorem State.setX_excCode (s : State) (r : RegIdx) (v : Word) :
    (s.setX r v).excCode = s.excCode := by
  unfold State.setX; split <;> rfl

@[simp] theorem State.setX_bd (s : State) (r : RegIdx) (v : Word) : (s.setX r v).bd = s.bd := by
  unfold State.setX; split <;> rfl

@[simp] theorem State.setX_intLines (s : State) (r : RegIdx) (v : Word) :
    (s.setX r v).intLines = s.intLines := by
  unfold State.setX; split <;> rfl

@[simp] theorem State.setX_epc (s : State) (r : RegIdx) (v : Word) : (s.setX r v).epc = s.epc := by
  unfold State.setX; split <;> rfl

@[simp] theorem State.setX_badVAddr (s : State) (r : RegIdx) (v : Word) :
    (s.setX r v).badVAddr = s.badVAddr := by
  unfold State.setX; split <;> rfl

@[simp] theorem State.setX_mem (s : State) (r : RegIdx) (v : Word) : (s.setX r v).mem = s.mem := by
  unfold State.setX; split <;> rfl

@[simp] theorem State.setX_pendingTarget (s : State) (r : RegIdx) (v : Word) :
    (s.setX r v).pendingTarget = s.pendingTarget := by
  unfold State.setX; split <;> rfl

@[simp] theorem State.setX_loadPending (s : State) (r : RegIdx) (v : Word) :
    (s.setX r v).loadPending = s.loadPending := by
  unfold State.setX; split <;> rfl

@[simp] theorem State.setX_storedBytes (s : State) (r : RegIdx) (v : Word) :
    (s.setX r v).storedBytes = s.storedBytes := by
  unfold State.setX; split <;> rfl

@[simp] theorem State.setX_intSchedule (s : State) (r : RegIdx) (v : Word) :
    (s.setX r v).intSchedule = s.intSchedule := by
  unfold State.setX; split <;> rfl

@[simp] theorem State.setX_freeCount (s : State) (r : RegIdx) (v : Word) :
    (s.setX r v).freeCount = s.freeCount := by
  unfold State.setX; split <;> rfl

@[simp] theorem State.setHiLo_params (s : State) (h l : Word) : (s.setHiLo h l).params = s.params := rfl

@[simp] theorem State.setHiLo_pc (s : State) (h l : Word) : (s.setHiLo h l).pc = s.pc := rfl

@[simp] theorem State.setHiLo_gpr (s : State) (h l : Word) : (s.setHiLo h l).gpr = s.gpr := rfl

@[simp] theorem State.setHiLo_hi (s : State) (h l : Word) : (s.setHiLo h l).hi = h := rfl

@[simp] theorem State.setHiLo_lo (s : State) (h l : Word) : (s.setHiLo h l).lo = l := rfl

@[simp] theorem State.setHiLo_fpr (s : State) (h l : Word) : (s.setHiLo h l).fpr = s.fpr := rfl

@[simp] theorem State.setHiLo_cc1 (s : State) (h l : Word) : (s.setHiLo h l).cc1 = s.cc1 := rfl

@[simp] theorem State.setHiLo_status (s : State) (h l : Word) : (s.setHiLo h l).status = s.status := rfl

@[simp] theorem State.setHiLo_excCode (s : State) (h l : Word) : (s.setHiLo h l).excCode = s.excCode := rfl

@[simp] theorem State.setHiLo_bd (s : State) (h l : Word) : (s.setHiLo h l).bd = s.bd := rfl

@[simp] theorem State.setHiLo_intLines (s : State) (h l : Word) :
    (s.setHiLo h l).intLines = s.intLines := rfl

@[simp] theorem State.setHiLo_epc (s : State) (h l : Word) : (s.setHiLo h l).epc = s.epc := rfl

@[simp] theorem State.setHiLo_badVAddr (s : State) (h l : Word) :
    (s.setHiLo h l).badVAddr = s.badVAddr := rfl

@[simp] theorem State.setHiLo_mem (s : State) (h l : Word) : (s.setHiLo h l).mem = s.mem := rfl

@[simp] theorem State.setHiLo_pendingTarget (s : State) (h l : Word) :
    (s.setHiLo h l).pendingTarget = s.pendingTarget := rfl

@[simp] theorem State.setHiLo_loadPending (s : State) (h l : Word) :
    (s.setHiLo h l).loadPending = s.loadPending := rfl

@[simp] theorem State.setHiLo_storedBytes (s : State) (h l : Word) :
    (s.setHiLo h l).storedBytes = s.storedBytes := rfl

@[simp] theorem State.setHiLo_intSchedule (s : State) (h l : Word) :
    (s.setHiLo h l).intSchedule = s.intSchedule := rfl

@[simp] theorem State.setHiLo_freeCount (s : State) (h l : Word) :
    (s.setHiLo h l).freeCount = s.freeCount := rfl

@[simp] theorem State.setF_params (s : State) (r : RegIdx) (v : Word) :
    (s.setF r v).params = s.params := rfl

@[simp] theorem State.setF_pc (s : State) (r : RegIdx) (v : Word) : (s.setF r v).pc = s.pc := rfl

@[simp] theorem State.setF_gpr (s : State) (r : RegIdx) (v : Word) : (s.setF r v).gpr = s.gpr := rfl

@[simp] theorem State.setF_hi (s : State) (r : RegIdx) (v : Word) : (s.setF r v).hi = s.hi := rfl

@[simp] theorem State.setF_lo (s : State) (r : RegIdx) (v : Word) : (s.setF r v).lo = s.lo := rfl

@[simp] theorem State.setF_fpr (s : State) (r : RegIdx) (v : Word) :
    (s.setF r v).fpr = writeSlot s.fpr r v := rfl

@[simp] theorem State.setF_cc1 (s : State) (r : RegIdx) (v : Word) : (s.setF r v).cc1 = s.cc1 := rfl

@[simp] theorem State.setF_status (s : State) (r : RegIdx) (v : Word) :
    (s.setF r v).status = s.status := rfl

@[simp] theorem State.setF_excCode (s : State) (r : RegIdx) (v : Word) :
    (s.setF r v).excCode = s.excCode := rfl

@[simp] theorem State.setF_bd (s : State) (r : RegIdx) (v : Word) : (s.setF r v).bd = s.bd := rfl

@[simp] theorem State.setF_intLines (s : State) (r : RegIdx) (v : Word) :
    (s.setF r v).intLines = s.intLines := rfl

@[simp] theorem State.setF_epc (s : State) (r : RegIdx) (v : Word) : (s.setF r v).epc = s.epc := rfl

@[simp] theorem State.setF_badVAddr (s : State) (r : RegIdx) (v : Word) :
    (s.setF r v).badVAddr = s.badVAddr := rfl

@[simp] theorem State.setF_mem (s : State) (r : RegIdx) (v : Word) : (s.setF r v).mem = s.mem := rfl

@[simp] theorem State.setF_pendingTarget (s : State) (r : RegIdx) (v : Word) :
    (s.setF r v).pendingTarget = s.pendingTarget := rfl

@[simp] theorem State.setF_loadPending (s : State) (r : RegIdx) (v : Word) :
    (s.setF r v).loadPending = s.loadPending := rfl

@[simp] theorem State.setF_storedBytes (s : State) (r : RegIdx) (v : Word) :
    (s.setF r v).storedBytes = s.storedBytes := rfl

@[simp] theorem State.setF_intSchedule (s : State) (r : RegIdx) (v : Word) :
    (s.setF r v).intSchedule = s.intSchedule := rfl

@[simp] theorem State.setF_freeCount (s : State) (r : RegIdx) (v : Word) :
    (s.setF r v).freeCount = s.freeCount := rfl

@[simp] theorem State.setFd_params (s : State) (r : RegIdx) (v : DWord) :
    (s.setFd r v).params = s.params := rfl

@[simp] theorem State.setFd_pc (s : State) (r : RegIdx) (v : DWord) : (s.setFd r v).pc = s.pc := rfl

@[simp] theorem State.setFd_gpr (s : State) (r : RegIdx) (v : DWord) : (s.setFd r v).gpr = s.gpr := rfl

@[simp] theorem State.setFd_hi (s : State) (r : RegIdx) (v : DWord) : (s.setFd r v).hi = s.hi := rfl

@[simp] theorem State.setFd_lo (s : State) (r : RegIdx) (v : DWord) : (s.setFd r v).lo = s.lo := rfl

@[simp] theorem State.setFd_fpr (s : State) (r : RegIdx) (v : DWord) :
    (s.setFd r v).fpr = writeSlot (writeSlot s.fpr r (v.extractLsb' 0 32)) (r + 1#5) (v.extractLsb' 32 32) :=
  rfl

@[simp] theorem State.setFd_cc1 (s : State) (r : RegIdx) (v : DWord) : (s.setFd r v).cc1 = s.cc1 := rfl

@[simp] theorem State.setFd_status (s : State) (r : RegIdx) (v : DWord) :
    (s.setFd r v).status = s.status := rfl

@[simp] theorem State.setFd_excCode (s : State) (r : RegIdx) (v : DWord) :
    (s.setFd r v).excCode = s.excCode := rfl

@[simp] theorem State.setFd_bd (s : State) (r : RegIdx) (v : DWord) : (s.setFd r v).bd = s.bd := rfl

@[simp] theorem State.setFd_intLines (s : State) (r : RegIdx) (v : DWord) :
    (s.setFd r v).intLines = s.intLines := rfl

@[simp] theorem State.setFd_epc (s : State) (r : RegIdx) (v : DWord) : (s.setFd r v).epc = s.epc := rfl

@[simp] theorem State.setFd_badVAddr (s : State) (r : RegIdx) (v : DWord) :
    (s.setFd r v).badVAddr = s.badVAddr := rfl

@[simp] theorem State.setFd_mem (s : State) (r : RegIdx) (v : DWord) : (s.setFd r v).mem = s.mem := rfl

@[simp] theorem State.setFd_pendingTarget (s : State) (r : RegIdx) (v : DWord) :
    (s.setFd r v).pendingTarget = s.pendingTarget := rfl

@[simp] theorem State.setFd_loadPending (s : State) (r : RegIdx) (v : DWord) :
    (s.setFd r v).loadPending = s.loadPending := rfl

@[simp] theorem State.setFd_storedBytes (s : State) (r : RegIdx) (v : DWord) :
    (s.setFd r v).storedBytes = s.storedBytes := rfl

@[simp] theorem State.setFd_intSchedule (s : State) (r : RegIdx) (v : DWord) :
    (s.setFd r v).intSchedule = s.intSchedule := rfl

@[simp] theorem State.setFd_freeCount (s : State) (r : RegIdx) (v : DWord) :
    (s.setFd r v).freeCount = s.freeCount := rfl

@[simp] theorem State.setCc1_params (s : State) (c : Bool) : (s.setCc1 c).params = s.params := rfl

@[simp] theorem State.setCc1_pc (s : State) (c : Bool) : (s.setCc1 c).pc = s.pc := rfl

@[simp] theorem State.setCc1_gpr (s : State) (c : Bool) : (s.setCc1 c).gpr = s.gpr := rfl

@[simp] theorem State.setCc1_hi (s : State) (c : Bool) : (s.setCc1 c).hi = s.hi := rfl

@[simp] theorem State.setCc1_lo (s : State) (c : Bool) : (s.setCc1 c).lo = s.lo := rfl

@[simp] theorem State.setCc1_fpr (s : State) (c : Bool) : (s.setCc1 c).fpr = s.fpr := rfl

@[simp] theorem State.setCc1_cc1 (s : State) (c : Bool) : (s.setCc1 c).cc1 = c := rfl

@[simp] theorem State.setCc1_status (s : State) (c : Bool) : (s.setCc1 c).status = s.status := rfl

@[simp] theorem State.setCc1_excCode (s : State) (c : Bool) : (s.setCc1 c).excCode = s.excCode := rfl

@[simp] theorem State.setCc1_bd (s : State) (c : Bool) : (s.setCc1 c).bd = s.bd := rfl

@[simp] theorem State.setCc1_intLines (s : State) (c : Bool) : (s.setCc1 c).intLines = s.intLines := rfl

@[simp] theorem State.setCc1_epc (s : State) (c : Bool) : (s.setCc1 c).epc = s.epc := rfl

@[simp] theorem State.setCc1_badVAddr (s : State) (c : Bool) : (s.setCc1 c).badVAddr = s.badVAddr := rfl

@[simp] theorem State.setCc1_mem (s : State) (c : Bool) : (s.setCc1 c).mem = s.mem := rfl

@[simp] theorem State.setCc1_pendingTarget (s : State) (c : Bool) :
    (s.setCc1 c).pendingTarget = s.pendingTarget := rfl

@[simp] theorem State.setCc1_loadPending (s : State) (c : Bool) :
    (s.setCc1 c).loadPending = s.loadPending := rfl

@[simp] theorem State.setCc1_storedBytes (s : State) (c : Bool) :
    (s.setCc1 c).storedBytes = s.storedBytes := rfl

@[simp] theorem State.setCc1_intSchedule (s : State) (c : Bool) :
    (s.setCc1 c).intSchedule = s.intSchedule := rfl

@[simp] theorem State.setCc1_freeCount (s : State) (c : Bool) : (s.setCc1 c).freeCount = s.freeCount := rfl

@[simp] theorem State.retireWith_params (s : State) (p : Option LoadPending) :
    (s.retireWith p).params = s.params := rfl

@[simp] theorem State.retireWith_pc (s : State) (p : Option LoadPending) :
    (s.retireWith p).pc = s.nextPc := rfl

@[simp] theorem State.retireWith_gpr (s : State) (p : Option LoadPending) :
    (s.retireWith p).gpr = s.gpr := rfl

@[simp] theorem State.retireWith_hi (s : State) (p : Option LoadPending) : (s.retireWith p).hi = s.hi := rfl

@[simp] theorem State.retireWith_lo (s : State) (p : Option LoadPending) : (s.retireWith p).lo = s.lo := rfl

@[simp] theorem State.retireWith_fpr (s : State) (p : Option LoadPending) :
    (s.retireWith p).fpr = s.fpr := rfl

@[simp] theorem State.retireWith_cc1 (s : State) (p : Option LoadPending) :
    (s.retireWith p).cc1 = s.cc1 := rfl

@[simp] theorem State.retireWith_status (s : State) (p : Option LoadPending) :
    (s.retireWith p).status = s.status := rfl

@[simp] theorem State.retireWith_excCode (s : State) (p : Option LoadPending) :
    (s.retireWith p).excCode = s.excCode := rfl

@[simp] theorem State.retireWith_bd (s : State) (p : Option LoadPending) : (s.retireWith p).bd = s.bd := rfl

@[simp] theorem State.retireWith_intLines (s : State) (p : Option LoadPending) :
    (s.retireWith p).intLines = s.intLines := rfl

@[simp] theorem State.retireWith_epc (s : State) (p : Option LoadPending) :
    (s.retireWith p).epc = s.epc := rfl

@[simp] theorem State.retireWith_badVAddr (s : State) (p : Option LoadPending) :
    (s.retireWith p).badVAddr = s.badVAddr := rfl

@[simp] theorem State.retireWith_mem (s : State) (p : Option LoadPending) :
    (s.retireWith p).mem = s.mem := rfl

@[simp] theorem State.retireWith_pendingTarget (s : State) (p : Option LoadPending) :
    (s.retireWith p).pendingTarget = none := rfl

@[simp] theorem State.retireWith_loadPending (s : State) (p : Option LoadPending) :
    (s.retireWith p).loadPending = p := rfl

@[simp] theorem State.retireWith_storedBytes (s : State) (p : Option LoadPending) :
    (s.retireWith p).storedBytes = s.storedBytes := rfl

@[simp] theorem State.retireWith_intSchedule (s : State) (p : Option LoadPending) :
    (s.retireWith p).intSchedule = s.intSchedule := rfl

@[simp] theorem State.retireWith_freeCount (s : State) (p : Option LoadPending) :
    (s.retireWith p).freeCount = s.freeCount + 1 := rfl

@[simp] theorem State.retire_params (s : State) : (s.retire).params = s.params := rfl

@[simp] theorem State.retire_pc (s : State) : (s.retire).pc = s.nextPc := rfl

@[simp] theorem State.retire_gpr (s : State) : (s.retire).gpr = s.gpr := rfl

@[simp] theorem State.retire_hi (s : State) : (s.retire).hi = s.hi := rfl

@[simp] theorem State.retire_lo (s : State) : (s.retire).lo = s.lo := rfl

@[simp] theorem State.retire_fpr (s : State) : (s.retire).fpr = s.fpr := rfl

@[simp] theorem State.retire_cc1 (s : State) : (s.retire).cc1 = s.cc1 := rfl

@[simp] theorem State.retire_status (s : State) : (s.retire).status = s.status := rfl

@[simp] theorem State.retire_excCode (s : State) : (s.retire).excCode = s.excCode := rfl

@[simp] theorem State.retire_bd (s : State) : (s.retire).bd = s.bd := rfl

@[simp] theorem State.retire_intLines (s : State) : (s.retire).intLines = s.intLines := rfl

@[simp] theorem State.retire_epc (s : State) : (s.retire).epc = s.epc := rfl

@[simp] theorem State.retire_badVAddr (s : State) : (s.retire).badVAddr = s.badVAddr := rfl

@[simp] theorem State.retire_mem (s : State) : (s.retire).mem = s.mem := rfl

@[simp] theorem State.retire_pendingTarget (s : State) : (s.retire).pendingTarget = none := rfl

@[simp] theorem State.retire_loadPending (s : State) : (s.retire).loadPending = none := rfl

@[simp] theorem State.retire_storedBytes (s : State) : (s.retire).storedBytes = s.storedBytes := rfl

@[simp] theorem State.retire_intSchedule (s : State) : (s.retire).intSchedule = s.intSchedule := rfl

@[simp] theorem State.retire_freeCount (s : State) : (s.retire).freeCount = s.freeCount + 1 := rfl

@[simp] theorem State.retireLoad_params (s : State) (p : LoadPending) :
    (s.retireLoad p).params = s.params := rfl

@[simp] theorem State.retireLoad_pc (s : State) (p : LoadPending) : (s.retireLoad p).pc = s.nextPc := rfl

@[simp] theorem State.retireLoad_gpr (s : State) (p : LoadPending) : (s.retireLoad p).gpr = s.gpr := rfl

@[simp] theorem State.retireLoad_hi (s : State) (p : LoadPending) : (s.retireLoad p).hi = s.hi := rfl

@[simp] theorem State.retireLoad_lo (s : State) (p : LoadPending) : (s.retireLoad p).lo = s.lo := rfl

@[simp] theorem State.retireLoad_fpr (s : State) (p : LoadPending) : (s.retireLoad p).fpr = s.fpr := rfl

@[simp] theorem State.retireLoad_cc1 (s : State) (p : LoadPending) : (s.retireLoad p).cc1 = s.cc1 := rfl

@[simp] theorem State.retireLoad_status (s : State) (p : LoadPending) :
    (s.retireLoad p).status = s.status := rfl

@[simp] theorem State.retireLoad_excCode (s : State) (p : LoadPending) :
    (s.retireLoad p).excCode = s.excCode := rfl

@[simp] theorem State.retireLoad_bd (s : State) (p : LoadPending) : (s.retireLoad p).bd = s.bd := rfl

@[simp] theorem State.retireLoad_intLines (s : State) (p : LoadPending) :
    (s.retireLoad p).intLines = s.intLines := rfl

@[simp] theorem State.retireLoad_epc (s : State) (p : LoadPending) : (s.retireLoad p).epc = s.epc := rfl

@[simp] theorem State.retireLoad_badVAddr (s : State) (p : LoadPending) :
    (s.retireLoad p).badVAddr = s.badVAddr := rfl

@[simp] theorem State.retireLoad_mem (s : State) (p : LoadPending) : (s.retireLoad p).mem = s.mem := rfl

@[simp] theorem State.retireLoad_pendingTarget (s : State) (p : LoadPending) :
    (s.retireLoad p).pendingTarget = none := rfl

@[simp] theorem State.retireLoad_loadPending (s : State) (p : LoadPending) :
    (s.retireLoad p).loadPending = if s.params.loadDelaySlot then some p else none := rfl

@[simp] theorem State.retireLoad_storedBytes (s : State) (p : LoadPending) :
    (s.retireLoad p).storedBytes = s.storedBytes := rfl

@[simp] theorem State.retireLoad_intSchedule (s : State) (p : LoadPending) :
    (s.retireLoad p).intSchedule = s.intSchedule := rfl

@[simp] theorem State.retireLoad_freeCount (s : State) (p : LoadPending) :
    (s.retireLoad p).freeCount = s.freeCount + 1 := rfl

@[simp] theorem State.storeAll_params (s : State) (b : List (Word × Byte)) :
    (s.storeAll b).params = s.params := rfl

@[simp] theorem State.storeAll_pc (s : State) (b : List (Word × Byte)) : (s.storeAll b).pc = s.pc := rfl

@[simp] theorem State.storeAll_gpr (s : State) (b : List (Word × Byte)) : (s.storeAll b).gpr = s.gpr := rfl

@[simp] theorem State.storeAll_hi (s : State) (b : List (Word × Byte)) : (s.storeAll b).hi = s.hi := rfl

@[simp] theorem State.storeAll_lo (s : State) (b : List (Word × Byte)) : (s.storeAll b).lo = s.lo := rfl

@[simp] theorem State.storeAll_fpr (s : State) (b : List (Word × Byte)) : (s.storeAll b).fpr = s.fpr := rfl

@[simp] theorem State.storeAll_cc1 (s : State) (b : List (Word × Byte)) : (s.storeAll b).cc1 = s.cc1 := rfl

@[simp] theorem State.storeAll_status (s : State) (b : List (Word × Byte)) :
    (s.storeAll b).status = s.status := rfl

@[simp] theorem State.storeAll_excCode (s : State) (b : List (Word × Byte)) :
    (s.storeAll b).excCode = s.excCode := rfl

@[simp] theorem State.storeAll_bd (s : State) (b : List (Word × Byte)) : (s.storeAll b).bd = s.bd := rfl

@[simp] theorem State.storeAll_intLines (s : State) (b : List (Word × Byte)) :
    (s.storeAll b).intLines = s.intLines := rfl

@[simp] theorem State.storeAll_epc (s : State) (b : List (Word × Byte)) : (s.storeAll b).epc = s.epc := rfl

@[simp] theorem State.storeAll_badVAddr (s : State) (b : List (Word × Byte)) :
    (s.storeAll b).badVAddr = s.badVAddr := rfl

@[simp] theorem State.storeAll_mem (s : State) (b : List (Word × Byte)) :
    (s.storeAll b).mem = Memory.putAll s.mem b := rfl

@[simp] theorem State.storeAll_pendingTarget (s : State) (b : List (Word × Byte)) :
    (s.storeAll b).pendingTarget = s.pendingTarget := rfl

@[simp] theorem State.storeAll_loadPending (s : State) (b : List (Word × Byte)) :
    (s.storeAll b).loadPending = s.loadPending := rfl

@[simp] theorem State.storeAll_storedBytes (s : State) (b : List (Word × Byte)) :
    (s.storeAll b).storedBytes =
      if s.params.fetchSeesStores then s.storedBytes else Memory.insertAll s.storedBytes b := rfl

@[simp] theorem State.storeAll_intSchedule (s : State) (b : List (Word × Byte)) :
    (s.storeAll b).intSchedule = s.intSchedule := rfl

@[simp] theorem State.storeAll_freeCount (s : State) (b : List (Word × Byte)) :
    (s.storeAll b).freeCount = s.freeCount := rfl

@[simp] theorem State.trapEntry_params (s : State) (e : Exc) (info : Word) :
    (s.trapEntry e info).params = s.params := rfl

@[simp] theorem State.trapEntry_pc (s : State) (e : Exc) (info : Word) :
    (s.trapEntry e info).pc = s.params.excVector := rfl

@[simp] theorem State.trapEntry_gpr (s : State) (e : Exc) (info : Word) :
    (s.trapEntry e info).gpr = s.gpr := rfl

@[simp] theorem State.trapEntry_hi (s : State) (e : Exc) (info : Word) :
    (s.trapEntry e info).hi = s.hi := rfl

@[simp] theorem State.trapEntry_lo (s : State) (e : Exc) (info : Word) :
    (s.trapEntry e info).lo = s.lo := rfl

@[simp] theorem State.trapEntry_fpr (s : State) (e : Exc) (info : Word) :
    (s.trapEntry e info).fpr = s.fpr := rfl

@[simp] theorem State.trapEntry_cc1 (s : State) (e : Exc) (info : Word) :
    (s.trapEntry e info).cc1 = s.cc1 := rfl

@[simp] theorem State.trapEntry_status (s : State) (e : Exc) (info : Word) :
    (s.trapEntry e info).status = pushStatus s.status := rfl

@[simp] theorem State.trapEntry_excCode (s : State) (e : Exc) (info : Word) :
    (s.trapEntry e info).excCode = e.code := rfl

@[simp] theorem State.trapEntry_bd (s : State) (e : Exc) (info : Word) :
    (s.trapEntry e info).bd = s.inDelaySlot := rfl

@[simp] theorem State.trapEntry_intLines (s : State) (e : Exc) (info : Word) :
    (s.trapEntry e info).intLines = s.intLines := rfl

@[simp] theorem State.trapEntry_epc (s : State) (e : Exc) (info : Word) :
    (s.trapEntry e info).epc = if s.inDelaySlot then s.pc - 4#32 else s.pc := rfl

@[simp] theorem State.trapEntry_badVAddr (s : State) (e : Exc) (info : Word) :
    (s.trapEntry e info).badVAddr = if e.recordsAddress then info else s.badVAddr := rfl

@[simp] theorem State.trapEntry_mem (s : State) (e : Exc) (info : Word) :
    (s.trapEntry e info).mem = s.mem := rfl

@[simp] theorem State.trapEntry_pendingTarget (s : State) (e : Exc) (info : Word) :
    (s.trapEntry e info).pendingTarget = none := rfl

@[simp] theorem State.trapEntry_loadPending (s : State) (e : Exc) (info : Word) :
    (s.trapEntry e info).loadPending = s.loadPending := rfl

@[simp] theorem State.trapEntry_storedBytes (s : State) (e : Exc) (info : Word) :
    (s.trapEntry e info).storedBytes = s.storedBytes := rfl

@[simp] theorem State.trapEntry_intSchedule (s : State) (e : Exc) (info : Word) :
    (s.trapEntry e info).intSchedule = s.intSchedule := rfl

@[simp] theorem State.trapEntry_freeCount (s : State) (e : Exc) (info : Word) :
    (s.trapEntry e info).freeCount = s.freeCount + 1 := rfl

@[simp] theorem State.popException_params (s : State) : (s.popException).params = s.params := rfl

@[simp] theorem State.popException_pc (s : State) : (s.popException).pc = s.pc := rfl

@[simp] theorem State.popException_gpr (s : State) : (s.popException).gpr = s.gpr := rfl

@[simp] theorem State.popException_hi (s : State) : (s.popException).hi = s.hi := rfl

@[simp] theorem State.popException_lo (s : State) : (s.popException).lo = s.lo := rfl

@[simp] theorem State.popException_fpr (s : State) : (s.popException).fpr = s.fpr := rfl

@[simp] theorem State.popException_cc1 (s : State) : (s.popException).cc1 = s.cc1 := rfl

@[simp] theorem State.popException_status (s : State) : (s.popException).status = popStatus s.status := rfl

@[simp] theorem State.popException_excCode (s : State) : (s.popException).excCode = s.excCode := rfl

@[simp] theorem State.popException_bd (s : State) : (s.popException).bd = s.bd := rfl

@[simp] theorem State.popException_intLines (s : State) : (s.popException).intLines = s.intLines := rfl

@[simp] theorem State.popException_epc (s : State) : (s.popException).epc = s.epc := rfl

@[simp] theorem State.popException_badVAddr (s : State) : (s.popException).badVAddr = s.badVAddr := rfl

@[simp] theorem State.popException_mem (s : State) : (s.popException).mem = s.mem := rfl

@[simp] theorem State.popException_pendingTarget (s : State) :
    (s.popException).pendingTarget = s.pendingTarget := rfl

@[simp] theorem State.popException_loadPending (s : State) :
    (s.popException).loadPending = s.loadPending := rfl

@[simp] theorem State.popException_storedBytes (s : State) :
    (s.popException).storedBytes = s.storedBytes := rfl

@[simp] theorem State.popException_intSchedule (s : State) :
    (s.popException).intSchedule = s.intSchedule := rfl

@[simp] theorem State.popException_freeCount (s : State) : (s.popException).freeCount = s.freeCount := rfl

@[simp] theorem State.sampleInterrupts_params (s : State) : (s.sampleInterrupts).params = s.params := rfl

@[simp] theorem State.sampleInterrupts_pc (s : State) : (s.sampleInterrupts).pc = s.pc := rfl

@[simp] theorem State.sampleInterrupts_gpr (s : State) : (s.sampleInterrupts).gpr = s.gpr := rfl

@[simp] theorem State.sampleInterrupts_hi (s : State) : (s.sampleInterrupts).hi = s.hi := rfl

@[simp] theorem State.sampleInterrupts_lo (s : State) : (s.sampleInterrupts).lo = s.lo := rfl

@[simp] theorem State.sampleInterrupts_fpr (s : State) : (s.sampleInterrupts).fpr = s.fpr := rfl

@[simp] theorem State.sampleInterrupts_cc1 (s : State) : (s.sampleInterrupts).cc1 = s.cc1 := rfl

@[simp] theorem State.sampleInterrupts_status (s : State) : (s.sampleInterrupts).status = s.status := rfl

@[simp] theorem State.sampleInterrupts_excCode (s : State) : (s.sampleInterrupts).excCode = s.excCode := rfl

@[simp] theorem State.sampleInterrupts_bd (s : State) : (s.sampleInterrupts).bd = s.bd := rfl

@[simp] theorem State.sampleInterrupts_intLines (s : State) :
    (s.sampleInterrupts).intLines = s.nextLines := rfl

@[simp] theorem State.sampleInterrupts_epc (s : State) : (s.sampleInterrupts).epc = s.epc := rfl

@[simp] theorem State.sampleInterrupts_badVAddr (s : State) :
    (s.sampleInterrupts).badVAddr = s.badVAddr := rfl

@[simp] theorem State.sampleInterrupts_mem (s : State) : (s.sampleInterrupts).mem = s.mem := rfl

@[simp] theorem State.sampleInterrupts_pendingTarget (s : State) :
    (s.sampleInterrupts).pendingTarget = s.pendingTarget := rfl

@[simp] theorem State.sampleInterrupts_loadPending (s : State) :
    (s.sampleInterrupts).loadPending = s.loadPending := rfl

@[simp] theorem State.sampleInterrupts_storedBytes (s : State) :
    (s.sampleInterrupts).storedBytes = s.storedBytes := rfl

@[simp] theorem State.sampleInterrupts_intSchedule (s : State) :
    (s.sampleInterrupts).intSchedule = s.intSchedule.drop 1 := rfl

@[simp] theorem State.sampleInterrupts_freeCount (s : State) :
    (s.sampleInterrupts).freeCount = s.freeCount := rfl

end Sys2Proof.Machine
end

