-- ==== Sys2Proof/Laws/Registers.lean ====
section
/-! SUPPORT. What the reads of the machine give after the updates: registers, sequencing, modes and memory. -/

namespace Sys2Proof.Machine

theorem readSlot_writeSlot (v : Vector Word 32) (q r : RegIdx) (w : Word) :
    readSlot (writeSlot v r w) q = if q = r then w else readSlot v q := by
  unfold readSlot writeSlot
  rw [Vector.getElem_set]
  by_cases h : q = r
  · subst h; simp
  · rw [if_neg h, if_neg fun e => h (BitVec.eq_of_toNat_eq e.symm)]

@[simp] theorem readSlot_writeSlot_same (v : Vector Word 32) (r : RegIdx) (w : Word) :
    readSlot (writeSlot v r w) r = w := by
  simp [readSlot_writeSlot]

/-- Register 0 reads 0 at all times (R21). -/
@[simp] theorem State.x_zero (s : State) : s.x 0#5 = 0#32 := rfl

@[simp] theorem State.setX_zero (s : State) (v : Word) : s.setX 0#5 v = s := rfl

/-- A register that is not in a load's delay reads as its slot. -/
theorem State.x_of_settled (s : State) (r : RegIdx) (h : s.gprDelayed r = false) :
    s.x r = if r = 0#5 then 0#32 else readSlot s.gpr r := by
  simp [State.x, h]

/-- A floating point register that is not in a load's delay reads as its slot. -/
theorem State.f_of_settled (s : State) (r : RegIdx) (h : s.fprDelayed r = false) :
    s.f r = readSlot s.fpr r := by
  simp [State.f, h]

/-- The slots of the general registers after a write. -/
theorem State.readSlot_setX (s : State) (r q : RegIdx) (v : Word) :
    readSlot (s.setX r v).gpr q = if q = r ∧ r ≠ 0#5 then v else readSlot s.gpr q := by
  by_cases h : r = 0#5
  · simp [h]
  · simp [h, readSlot_writeSlot]

/-- A read after a write of a general register, away from any load delay (R21). -/
theorem State.x_setX (s : State) (r q : RegIdx) (v : Word) (h : s.gprDelayed q = false) :
    (s.setX r v).x q = if q = r ∧ r ≠ 0#5 then v else s.x q := by
  have h' : (s.setX r v).gprDelayed q = false := by
    simpa [State.gprDelayed] using h
  rw [State.x_of_settled _ _ h', State.x_of_settled _ _ h, State.readSlot_setX]
  by_cases hq : q = 0#5
  · subst hq
    by_cases hr : r = 0#5
    · simp [hr]
    · simp [Ne.symm hr]
  · simp [hq]

@[simp] theorem State.nextPc_setX (s : State) (r : RegIdx) (v : Word) : (s.setX r v).nextPc = s.nextPc := by
  simp [State.nextPc, State.slotTarget]

@[simp] theorem State.inDelaySlot_setX (s : State) (r : RegIdx) (v : Word) :
    (s.setX r v).inDelaySlot = s.inDelaySlot := by
  simp [State.inDelaySlot, State.slotTarget]

@[simp] theorem State.nextPc_setHiLo (s : State) (h l : Word) : (s.setHiLo h l).nextPc = s.nextPc := rfl

@[simp] theorem State.nextPc_setF (s : State) (r : RegIdx) (v : Word) : (s.setF r v).nextPc = s.nextPc := rfl

@[simp] theorem State.nextPc_setFd (s : State) (r : RegIdx) (v : DWord) : (s.setFd r v).nextPc = s.nextPc :=
  rfl

@[simp] theorem State.nextPc_setCc1 (s : State) (c : Bool) : (s.setCc1 c).nextPc = s.nextPc := rfl

@[simp] theorem State.nextPc_storeAll (s : State) (b : List (Word × Byte)) :
    (s.storeAll b).nextPc = s.nextPc := rfl

@[simp] theorem State.nextPc_popException (s : State) : s.popException.nextPc = s.nextPc := rfl

@[simp] theorem State.byte_setX (s : State) (r : RegIdx) (v a : Word) : (s.setX r v).byte a = s.byte a := by
  simp [State.byte]

@[simp] theorem State.byte_setHiLo (s : State) (h l a : Word) : (s.setHiLo h l).byte a = s.byte a := rfl

@[simp] theorem State.byte_setF (s : State) (r : RegIdx) (v a : Word) : (s.setF r v).byte a = s.byte a := rfl

@[simp] theorem State.byte_setFd (s : State) (r : RegIdx) (v : DWord) (a : Word) :
    (s.setFd r v).byte a = s.byte a := rfl

@[simp] theorem State.byte_setCc1 (s : State) (c : Bool) (a : Word) : (s.setCc1 c).byte a = s.byte a := rfl

@[simp] theorem State.byte_retireWith (s : State) (p : Option LoadPending) (a : Word) :
    (s.retireWith p).byte a = s.byte a := rfl

@[simp] theorem State.byte_retire (s : State) (a : Word) : s.retire.byte a = s.byte a := rfl

@[simp] theorem State.byte_retireLoad (s : State) (p : LoadPending) (a : Word) :
    (s.retireLoad p).byte a = s.byte a := rfl

@[simp] theorem State.byte_trapEntry (s : State) (e : Exc) (i a : Word) :
    (s.trapEntry e i).byte a = s.byte a := rfl

@[simp] theorem State.byte_popException (s : State) (a : Word) : s.popException.byte a = s.byte a := rfl

/-- After trap entry the machine is in kernel mode (R425 step 4). -/
@[simp] theorem State.userMode_trapEntry (s : State) (e : Exc) (i : Word) :
    (s.trapEntry e i).userMode = false := by
  simp only [State.userMode, State.trapEntry_status, pushStatus]
  rw [BitVec.getLsbD_append]
  simp

end Sys2Proof.Machine
end

