-- ==== Sys2Proof/Laws/Ops.lean ====
section
/-! SUPPORT. For each shared operation, once, everything it can do: the lemmas that proofs about the meanings
cite instead of unfolding the operations. -/

namespace Sys2Proof.Machine

theorem SameGpr.refl (s : State) : SameGpr s s := fun _ => rfl
theorem SameHiLo.refl (s : State) : SameHiLo s s := ⟨rfl, rfl⟩
theorem SameFp.refl (s : State) : SameFp s s := ⟨fun _ => rfl, rfl⟩
theorem SameMemory.refl (s : State) : SameMemory s s := ⟨fun _ => rfl, rfl⟩
theorem SameSystem.refl (s : State) : SameSystem s s := ⟨rfl, rfl, rfl, rfl, rfl, rfl, rfl, rfl⟩

/-- Where control goes next, with and without delay slots (R31, R471 b). -/
theorem State.nextPc_eq (s : State) :
    s.nextPc = if s.params.branchDelaySlot = true then s.pendingTarget.getD (s.pc + 4#32) else s.pc + 4#32 := by
  unfold State.nextPc State.slotTarget
  cases s.params.branchDelaySlot <;> cases s.pendingTarget <;> simp

/-- A completed instruction goes on (R31). -/
theorem State.goesOn_retireWith (s t : State) (p : Option LoadPending) (hp : t.params = s.params)
    (hpc : t.pc = s.pc) (ht : t.pendingTarget = s.pendingTarget) : GoesOn s (t.retireWith p) := by
  refine ⟨rfl, ?_⟩
  simp only [State.retireWith_pc, State.nextPc_eq, hp, hpc, ht]

/-- A result written to a general register: that register and nothing else (R21, R140). -/
theorem State.write_spec (s : State) (rd : RegIdx) (v : Word) : WritesGpr (s.write rd v).outcome s rd v := by
  refine ⟨_, rfl, ?_, ?_, ?_, ?_, ?_, ?_, rfl⟩
  · intro r
    show readSlot (s.setX rd v).retire.gpr r = _
    rw [State.retire_gpr, State.readSlot_setX]
    by_cases h : r = rd <;> simp [h]
  · simp [SameHiLo]
  · simp [SameFp]
  · simp [SameMemory]
  · simp [SameSystem]
  · exact s.goesOn_retireWith (s.setX rd v) none (by simp) (by simp) (by simp)

/-- An exception is trap entry and nothing else (R425, R471 d). -/
theorem State.raise_spec (s : State) (e : Exc) (info : Word) :
    Traps (s.raise e info).outcome s e.code (if e.recordsAddress = true then info else s.badVAddr) := by
  refine ⟨_, rfl, rfl, rfl, rfl, rfl, rfl, ?_, fun _ => rfl, ⟨rfl, rfl⟩, ⟨fun _ => rfl, rfl⟩,
    ⟨fun _ => rfl, rfl⟩, rfl, rfl, rfl, rfl, rfl⟩
  intro i
  show (pushStatus s.status).getLsbD i = _
  simp only [pushStatus, BitVec.getLsbD_append, BitVec.getLsbD_extractLsb']
  by_cases h2 : i < 2
  · have : i = 0 ∨ i = 1 := by omega
    rcases this with rfl | rfl <;> simp
  · by_cases h6 : i < 6
    · have h4 : i - 2 < 4 := by omega
      simp [h2, h6, h4]
    · have h4 : ¬ i - 2 < 4 := by omega
      simp only [h2, h6, h4, decide_false, if_false]
      by_cases h32 : i < 32
      · have e1 : 6 + (i - 2 - 4) = i := by omega
        have e2 : i - 2 - 4 < 26 := by omega
        simp [e1, e2]
      · have e2 : ¬ i - 2 - 4 < 26 := by omega
        simp [e2, BitVec.getLsbD_of_ge _ _ (show 32 ≤ i by omega)]

/-- A checked result is written where it fits and traps where it does not (R141). -/
theorem State.writeChecked_spec (s : State) (rd : RegIdx) (t : Int) :
    if -2 ^ 31 ≤ t ∧ t ≤ 2 ^ 31 - 1
    then WritesGpr (s.writeChecked rd (fitsSigned t)).outcome s rd (BitVec.ofInt 32 t)
    else Traps (s.writeChecked rd (fitsSigned t)).outcome s 12#4 s.badVAddr := by
  have e : (-2 ^ 31 ≤ t ∧ t ≤ 2 ^ 31 - 1) ↔ (-2147483648 ≤ t ∧ t ≤ 2147483647) := by omega
  split
  · rename_i h
    rw [fitsSigned, if_pos (e.mp h)]
    exact s.write_spec rd _
  · rename_i h
    rw [fitsSigned, if_neg fun k => h (e.mpr k)]
    exact s.raise_spec .ovf 0#32

/-- `hi` and `lo` written: these two and nothing else (R26). -/
theorem State.setHiLo_spec (s : State) (h l : Word) (p : Word → Word → Prop) (hp : p h l) :
    WritesHiLo (Effect.done (s.setHiLo h l).retire).outcome s p :=
  ⟨_, rfl, hp, fun _ => rfl, ⟨fun _ => rfl, rfl⟩, ⟨fun _ => rfl, rfl⟩, ⟨rfl, rfl, rfl, rfl, rfl, rfl, rfl, rfl⟩,
    s.goesOn_retireWith (s.setHiLo h l) none rfl rfl rfl, rfl⟩

/-- A branch or jump outside a delay slot (R231, R471 a). -/
theorem State.branch_spec (s : State) (taken : Bool) (target : Word) (h : s.inDelaySlot = false) :
    Branches (s.branch taken target).outcome s taken target none := by
  unfold State.branch
  rw [if_neg (by simp [h])]
  cases hd : s.params.branchDelaySlot
  · rw [if_neg (by simp)]
    exact ⟨_, rfl, fun _ => ⟨rfl, rfl⟩, fun e => by simp [hd] at e, fun _ => rfl, ⟨rfl, rfl⟩,
      ⟨fun _ => rfl, rfl⟩, ⟨fun _ => rfl, rfl⟩, ⟨rfl, rfl, rfl, rfl, rfl, rfl, rfl, rfl⟩, rfl⟩
  · rw [if_pos rfl]
    exact ⟨_, rfl, fun e => by simp [hd] at e, fun _ => ⟨rfl, rfl⟩, fun _ => rfl, ⟨rfl, rfl⟩,
      ⟨fun _ => rfl, rfl⟩, ⟨fun _ => rfl, rfl⟩, ⟨rfl, rfl, rfl, rfl, rfl, rfl, rfl, rfl⟩, rfl⟩

/-- A linking branch or jump outside a delay slot (R260, R471 a). -/
theorem State.branch_link_spec (s : State) (rd : RegIdx) (taken : Bool) (target : Word)
    (h : s.inDelaySlot = false) :
    Branches ((s.setX rd s.linkValue).branch taken target).outcome s taken target (some rd) := by
  obtain ⟨t, ho, h1, h2, hg, hh, hf, hm, hs, hl⟩ :=
    (s.setX rd s.linkValue).branch_spec taken target (by simpa using h)
  refine ⟨t, ho, by simpa using h1, by simpa using h2, ?_, by simpa [SameHiLo] using hh,
    by simpa [SameFp] using hf, by simpa [SameMemory] using hm, by simpa [SameSystem] using hs, hl⟩
  intro r
  rw [hg r, State.readSlot_setX]
  by_cases e : r = rd <;> simp [e, State.linkValue]

/-- A branch or jump in a delay slot is refused (R471 c). -/
theorem State.branch_refused (s : State) (taken : Bool) (target : Word) (h : s.inDelaySlot = true) :
    s.branch taken target = .refuse .branchInDelaySlot := by
  simp [State.branch, h]

/-! Data accesses. -/

theorem aligned2_iff (a : Word) : aligned2 a = true ↔ a.toNat % 2 = 0 := by
  simp only [aligned2, BitVec.getLsbD, Nat.testBit_zero]
  have := Nat.mod_two_eq_zero_or_one a.toNat
  rcases this with h | h <;> simp [h]

theorem aligned4_iff (a : Word) : aligned4 a = true ↔ a.toNat % 4 = 0 := by
  simp [aligned4, ← BitVec.toNat_inj]

theorem State.kusegDenies_iff (s : State) (a : Word) :
    s.kusegDenies a = true ↔ s.params.enforceKuseg = true ∧ s.userMode = true ∧ 0x80000000 ≤ a.toNat := by
  have : a.getLsbD 31 = true ↔ 0x80000000 ≤ a.toNat := by
    have := a.isLt
    simp only [BitVec.getLsbD, Nat.testBit, Nat.shiftRight_eq_div_pow]
    constructor
    · intro h
      simp at h
      omega
    · intro h
      have : a.toNat / 2147483648 = 1 := by omega
      simp [this]
  rw [State.kusegDenies, Bool.and_eq_true, Bool.and_eq_true, this, and_assoc]

/-- What follows an alignment check alone: the address error and nothing else where the address is no multiple of 4,
what the check guards where it is one (R68). -/
theorem State.ifAligned_spec (s : State) (e : Exc) (a : Word) (k : Effect) :
    (a.toNat % 4 = 0 → s.ifAligned e a k = k) ∧
      (a.toNat % 4 ≠ 0 → Traps (s.ifAligned e a k).outcome s e.code
        (if e.recordsAddress = true then a else s.badVAddr)) := by
  rw [← aligned4_iff, ne_eq, ← aligned4_iff]
  refine ⟨fun h => ?_, fun h => ?_⟩
  · rw [State.ifAligned, if_pos h]
  · rw [State.ifAligned, if_neg h]
    exact s.raise_spec e a

/-- An access passes every check after alignment (R77, R76). -/
theorem State.canAccess_iff (s : State) (a : Word) (span : List Word) :
    s.CanAccess a span ↔ s.kusegDenies a = false ∧ span.all s.mapped = true := by
  unfold State.CanAccess
  rw [← State.kusegDenies_iff]
  simp

/-- The checks of a data access in their order (R280, R310, R421): an alignment or segment error is the address
error, memory that does not respond the data bus error, and otherwise there is none. -/
theorem State.dataFault_cases (s : State) (e : Exc) (a : Word) (aligned : Bool) (span : List Word) :
    (s.dataFault e a aligned span = some e ∧ (aligned = false ∨ s.kusegDenies a = true)) ∨
    (s.dataFault e a aligned span = some .dbus ∧ aligned = true ∧ s.kusegDenies a = false ∧
      ∃ p ∈ span, s.mapped p = false) ∨
    (s.dataFault e a aligned span = none ∧ aligned = true ∧ s.CanAccess a span) := by
  unfold State.dataFault
  cases aligned
  · simp
  · cases hk : s.kusegDenies a
    · cases hm : span.all s.mapped
      · right; left
        have : ∃ p ∈ span, s.mapped p = false := by simpa using hm
        simpa using this
      · right; right
        refine ⟨by simp, rfl, (s.canAccess_iff a span).mpr ⟨hk, hm⟩⟩
    · simp

/-- The exception of a word access, in the terms of the checks that loads and stores make (R68, R280, R310). -/
theorem State.wordFault_eq (s : State) (e : Exc) (a : Word) (h : e.recordsAddress = true) :
    s.wordFault e.code a = (s.dataFault e a (aligned4 a) (wordSpan a)).map
      (fun f => (f.code, if f.recordsAddress = true then a else s.badVAddr)) := by
  unfold State.wordFault State.dataFault
  simp only [ne_eq, ← aligned4_iff, ← State.kusegDenies_iff]
  cases aligned4 a
  · simp [h]
  · cases s.kusegDenies a
    · by_cases hm : (wordSpan a).all s.mapped = true
      · have : ¬ ∃ p ∈ wordSpan a, s.mapped p = false := by simpa using hm
        simp [hm, this]
      · have : ∃ p ∈ wordSpan a, s.mapped p = false := by simpa using hm
        rw [if_neg (by simp), if_neg (by simp), if_pos this]
        simp [hm, Exc.code, Exc.recordsAddress]
    · simp [h]

/-- A load whose checks pass continues (R280). -/
theorem State.loadAt_passes (s : State) (a : Word) (aligned : Bool) (span : List Word) (k : Effect)
    (ha : aligned = true) (h : s.CanAccess a span) : s.loadAt a aligned span k = k := by
  obtain ⟨hk, hm⟩ := (s.canAccess_iff a span).mp h
  simp [State.loadAt, State.dataFault, ha, hk, hm]

/-- A load whose address is misaligned or denied raises ADDRL with that address (R412). -/
theorem State.loadAt_address_error (s : State) (a : Word) (aligned : Bool) (span : List Word) (k : Effect)
    (h : aligned = false ∨ s.kusegDenies a = true) : Traps (s.loadAt a aligned span k).outcome s 4#4 a := by
  have : s.loadAt a aligned span k = s.raise .addrl a := by
    rcases h with h | h <;> cases aligned <;> simp_all [State.loadAt, State.dataFault]
  rw [this]
  exact s.raise_spec .addrl a

/-- A load to which memory does not respond raises DBUS, `BadVAddr` unchanged (R415). -/
theorem State.loadAt_bus_error (s : State) (a : Word) (aligned : Bool) (span : List Word) (k : Effect)
    (ha : aligned = true) (hk : s.kusegDenies a = false) (hm : ∃ p ∈ span, s.mapped p = false) :
    Traps (s.loadAt a aligned span k).outcome s 7#4 s.badVAddr := by
  have hm' : span.all s.mapped = false := by simpa using hm
  have : s.loadAt a aligned span k = s.raise .dbus a := by
    simp [State.loadAt, State.dataFault, ha, hk, hm']
  rw [this]
  exact s.raise_spec .dbus a

/-- A general register loaded: that register, in its delay where loads have one, and nothing else (R280,
R472). -/
theorem State.setX_retireLoad_spec (s : State) (rt : RegIdx) (v : Word) (b : Bool) :
    LoadsGpr (Effect.done ((s.setX rt v).retireLoad (.gpr rt b))).outcome s rt v b := by
  refine ⟨_, rfl, ?_, ?_, ?_, ?_, ?_, ?_, ?_⟩
  · intro r
    show readSlot ((s.setX rt v).retireLoad _).gpr r = _
    rw [State.retireLoad_gpr, State.readSlot_setX]
    by_cases h : r = rt <;> simp [h]
  · simp [SameHiLo]
  · simp [SameFp]
  · simp [SameMemory]
  · simp [SameSystem]
  · exact s.goesOn_retireWith (s.setX rt v) _ (by simp) (by simp) (by simp)
  · simp [State.retireLoad]

/-- A floating point register loaded: that register, in its delay where loads have one, and nothing else (R280,
R472). -/
theorem State.setF_retireLoad_spec (s : State) (r : RegIdx) (v : Word) :
    LoadsFpr (Effect.done ((s.setF r v).retireLoad (.fpr r))).outcome s r v :=
  ⟨_, rfl, fun q => readSlot_writeSlot s.fpr q r v, rfl, fun _ => rfl, ⟨rfl, rfl⟩, ⟨fun _ => rfl, rfl⟩,
    ⟨rfl, rfl, rfl, rfl, rfl, rfl, rfl, rfl⟩, s.goesOn_retireWith (s.setF r v) _ rfl rfl rfl, rfl⟩

/-- The bytes stored are remembered as stored ones where a fetch may miss a store (R82). -/
theorem State.remembers_storeAll (s : State) (bytes : List (Word × Byte)) (stored : Word → Prop)
    (h : ∀ p, stored p ↔ p ∈ bytes.map Prod.fst) : Remembers s (s.storeAll bytes) stored := by
  refine ⟨fun e => by simp [e], fun e n => ?_⟩
  rw [State.storeAll_storedBytes, e, if_neg (by simp), Memory.mem_insertAll]
  simp only [h]

/-- A store whose checks pass writes its bytes and nothing else (R310). -/
theorem State.storeAt_passes (s : State) (a : Word) (aligned : Bool) (span : List Word)
    (bytes : List (Word × Byte)) (stored : Word → Option Byte) (ha : aligned = true) (h : s.CanAccess a span)
    (hs : ∀ p, (s.storeAll bytes).byte p = (stored p).getD (s.byte p))
    (hr : ∀ p, (stored p).isSome = true ↔ p ∈ bytes.map Prod.fst) :
    StoresBytes (s.storeAt a aligned span bytes).outcome s stored := by
  obtain ⟨hk, hm⟩ := (s.canAccess_iff a span).mp h
  have e : s.storeAt a aligned span bytes = .done (s.storeAll bytes).retire := by
    simp [State.storeAt, State.dataFault, ha, hk, hm]
  rw [e]
  exact ⟨_, rfl, hs, s.remembers_storeAll bytes _ hr, fun _ => rfl, ⟨rfl, rfl⟩, ⟨fun _ => rfl, rfl⟩, ⟨rfl, rfl, rfl, rfl, rfl, rfl, rfl, rfl⟩,
    s.goesOn_retireWith (s.storeAll bytes) none rfl rfl rfl, rfl⟩

/-- A store whose address is misaligned or denied raises ADDRS with that address (R413). -/
theorem State.storeAt_address_error (s : State) (a : Word) (aligned : Bool) (span : List Word)
    (bytes : List (Word × Byte)) (h : aligned = false ∨ s.kusegDenies a = true) :
    Traps (s.storeAt a aligned span bytes).outcome s 5#4 a := by
  have : s.storeAt a aligned span bytes = s.raise .addrs a := by
    rcases h with h | h <;> cases aligned <;> simp_all [State.storeAt, State.dataFault]
  rw [this]
  exact s.raise_spec .addrs a

/-- A store to which memory does not respond raises DBUS, `BadVAddr` unchanged (R415). -/
theorem State.storeAt_bus_error (s : State) (a : Word) (aligned : Bool) (span : List Word)
    (bytes : List (Word × Byte)) (ha : aligned = true) (hk : s.kusegDenies a = false)
    (hm : ∃ p ∈ span, s.mapped p = false) : Traps (s.storeAt a aligned span bytes).outcome s 7#4 s.badVAddr := by
  have hm' : span.all s.mapped = false := by simpa using hm
  have : s.storeAt a aligned span bytes = s.raise .dbus a := by
    simp [State.storeAt, State.dataFault, ha, hk, hm']
  rw [this]
  exact s.raise_spec .dbus a

/-! Coprocessor 0, privilege, floating point. -/

/-- A kernel-only instruction in kernel mode is itself (R436). -/
theorem State.privileged_kernel (s : State) (k : Effect) (h : s.userMode = false) : s.privileged k = k := by
  simp [State.privileged, h]

/-- A kernel-only instruction in user mode takes the reserved instruction exception (R437). -/
theorem State.privileged_user (s : State) (k : Effect) (h : s.userMode = true) :
    Traps (s.privileged k).outcome s 10#4 s.badVAddr := by
  have : s.privileged k = s.raise .ri 0#32 := by simp [State.privileged, h]
  rw [this]
  exact s.raise_spec .ri 0#32

/-- A computational floating point instruction with even registers is itself (R350). -/
theorem evenOnly_even (regs : List RegIdx) (k : Effect) (h : regs.all evenReg = true) : evenOnly regs k = k := by
  simp [evenOnly, h]

/-- One with an odd register is refused (R350). -/
theorem evenOnly_odd (regs : List RegIdx) (k : Effect) (h : regs.all evenReg = false) :
    evenOnly regs k = .refuse .oddFpRegister := by
  simp [evenOnly, h]

/-- A floating point result: one register and nothing else. -/
theorem State.setF_spec (s : State) (fd : RegIdx) (v : Word) :
    WritesFp (Effect.done (s.setF fd v).retire).outcome s (fun t => FprWritten s t fd v) :=
  ⟨_, rfl, fun q => readSlot_writeSlot s.fpr q fd v, rfl, fun _ => rfl, ⟨rfl, rfl⟩, ⟨fun _ => rfl, rfl⟩,
    ⟨rfl, rfl, rfl, rfl, rfl, rfl, rfl, rfl⟩, s.goesOn_retireWith (s.setF fd v) none rfl rfl rfl, rfl⟩

/-- A double result: the pair and nothing else (R41). -/
theorem State.setFd_spec (s : State) (fd : RegIdx) (v : DWord) (h : evenReg fd = true) :
    WritesFp (Effect.done (s.setFd fd v).retire).outcome s (fun t => FprPairWritten s t fd v) := by
  refine ⟨_, rfl, ?_, rfl, fun _ => rfl, ⟨rfl, rfl⟩, ⟨fun _ => rfl, rfl⟩,
    ⟨rfl, rfl, rfl, rfl, rfl, rfl, rfl, rfl⟩, s.goesOn_retireWith (s.setFd fd v) none rfl rfl rfl, rfl⟩
  intro q
  show readSlot (writeSlot (writeSlot s.fpr fd _) (fd + 1#5) _) q = _
  rw [readSlot_writeSlot, readSlot_writeSlot]
  have hne : fd ≠ fd + 1#5 := by
    intro e
    have := congrArg BitVec.toNat e
    simp at this
    have := fd.isLt
    omega
  by_cases h1 : q = fd
  · subst h1; simp [hne]
  · simp [h1]

/-- The condition flag written and nothing else (R34). -/
theorem State.setCc1_spec (s : State) (c : Bool) :
    SetsFlag (Effect.done (s.setCc1 c).retire).outcome s c :=
  ⟨_, rfl, rfl, fun _ => rfl, fun _ => rfl, ⟨rfl, rfl⟩, ⟨fun _ => rfl, rfl⟩,
    ⟨rfl, rfl, rfl, rfl, rfl, rfl, rfl, rfl⟩, s.goesOn_retireWith (s.setCc1 c) none rfl rfl rfl, rfl⟩

/-! The words of an expansion. -/

/-- A word that goes on to the next word of the expansion. -/
theorem runWords_next (fuel : Nat) (i : Instr) (rest : List Instr) (s t : State)
    (h : wordEffect i s = .done t) (hpc : t.pc = s.pc + 4#32) :
    runWords (fuel + 1) (i :: rest) s = runWords fuel rest t := by
  have e : t.pc - s.pc = 4#32 := by rw [hpc]; bv_omega
  simp [runWords, h, e]

/-- A word that skips `n` words of the expansion. -/
theorem runWords_skip (fuel n : Nat) (i : Instr) (rest : List Instr) (s t : State)
    (h : wordEffect i s = .done t) (hpc : (t.pc - s.pc).toNat = 4 * (n + 1)) :
    runWords (fuel + 1) (i :: rest) s = runWords fuel (rest.drop n) t := by
  have e : 4 * (n + 1) / 4 = n + 1 := by omega
  simp [runWords, h, hpc, e]

/-- A word that traps ends the expansion (R121 d). -/
theorem runWords_trap (fuel : Nat) (i : Instr) (rest : List Instr) (s t : State)
    (h : wordEffect i s = .trap t) : runWords (fuel + 1) (i :: rest) s = .trap t := by
  simp [runWords, h]

@[simp] theorem runWords_nil (fuel : Nat) (s : State) : runWords fuel [] s = .done s := by
  cases fuel <;> rfl

/-- A pseudoinstruction outside its restrictions is refused (R121). -/
theorem runPseudo_refused (i : Instr) (s : State) (h : wellFormed i = false) :
    runPseudo i s = .refuse .pseudoOutsideRestrictions := by
  simp [runPseudo, h]

/-- A pseudoinstruction inside its restrictions is the run of its words (R121). -/
theorem runPseudo_eq (i : Instr) (s : State) (h : wellFormed i = true) :
    runPseudo i s =
      let words := expand s.params.bigEndian s.params.branchDelaySlot i
      match runWords words.length words s with
      | .done t => .done (t.afterPseudo i)
      | .trap t => .trap (t.trappedPseudo i)
      | .stop r => .stop r
      | .refuse r => .refuse r := by
  unfold runPseudo
  exact if_pos h

end Sys2Proof.Machine
end

