-- ==== Sys2Proof/Laws/Words.lean ====
section
/-! SUPPORT. The fields of a word that is written out as its fields (R101, R102). -/

namespace Sys2Proof.Machine

/-- A concatenation as a number. -/
theorem toNat_append_eq {n m : Nat} (a : BitVec n) (b : BitVec m) :
    (a ++ b).toNat = a.toNat * 2 ^ m + b.toNat := by
  rw [BitVec.toNat_append, Nat.shiftLeft_eq, ← Nat.shiftLeft_eq, Nat.shiftLeft_add_eq_or_of_lt b.isLt]

theorem rWord_toNat (rs rt rd : RegIdx) (sh : BitVec 5) (f : BitVec 6) :
    (rWord rs rt rd sh f).toNat =
      rs.toNat * 2 ^ 21 + rt.toNat * 2 ^ 16 + rd.toNat * 2 ^ 11 + sh.toNat * 2 ^ 6 + f.toNat := by
  simp only [rWord, toNat_append_eq]
  simp
  omega

theorem iWord_toNat (op : BitVec 6) (rs rt : RegIdx) (imm : Half) :
    (iWord op rs rt imm).toNat = op.toNat * 2 ^ 26 + rs.toNat * 2 ^ 21 + rt.toNat * 2 ^ 16 + imm.toNat := by
  simp only [iWord, toNat_append_eq]
  omega

/-- The fields of a word of the R format (R101). -/
theorem rWord_fields (rs rt rd : RegIdx) (sh : BitVec 5) (f : BitVec 6) :
    fieldOp (rWord rs rt rd sh f) = 0#6 ∧ fieldRs (rWord rs rt rd sh f) = rs ∧
      fieldRt (rWord rs rt rd sh f) = rt ∧ fieldRd (rWord rs rt rd sh f) = rd ∧
      fieldShamt (rWord rs rt rd sh f) = sh ∧ fieldFunct (rWord rs rt rd sh f) = f := by
  have := rs.isLt
  have := rt.isLt
  have := rd.isLt
  have := sh.isLt
  have := f.isLt
  refine ⟨?_, ?_, ?_, ?_, ?_, ?_⟩ <;> apply BitVec.eq_of_toNat_eq <;>
    simp only [fieldOp, fieldRs, fieldRt, fieldRd, fieldShamt, fieldFunct, BitVec.extractLsb'_toNat,
      rWord_toNat, Nat.shiftRight_eq_div_pow] <;> simp <;> omega

/-- The fields of a word of the I format (R102). -/
theorem iWord_fields (op : BitVec 6) (rs rt : RegIdx) (imm : Half) :
    fieldOp (iWord op rs rt imm) = op ∧ fieldRs (iWord op rs rt imm) = rs ∧
      fieldRt (iWord op rs rt imm) = rt ∧ fieldImm (iWord op rs rt imm) = imm := by
  have := rs.isLt
  have := rt.isLt
  have := op.isLt
  have := imm.isLt
  refine ⟨?_, ?_, ?_, ?_⟩ <;> apply BitVec.eq_of_toNat_eq <;>
    simp only [fieldOp, fieldRs, fieldRt, fieldImm, BitVec.extractLsb'_toNat, iWord_toNat,
      Nat.shiftRight_eq_div_pow] <;> omega

end Sys2Proof.Machine
end

