-- ==== Sys2Proof/Tests/Slice0.lean ====
section
/-! SUPPORT. The model's own tests. The expected words are those of spec/opcode_table.json and of
spec/95_test_vectors.md, the expected results those of spec/95_test_vectors.md or worked out by hand from the rules.
The last part shows for each statement of Obligations.lean that its hypotheses can be met. -/

namespace Sys2Proof.Tests
open Sys2Proof.Machine

/-! Small states. -/

/-- A state at 0x00400000 with some registers set, little-endian, in user mode with interrupts off. -/
def regs (l : List (RegIdx × Word)) : State :=
  l.foldl (fun s p => s.setX p.1 p.2)
    { State.reset with pc := 0x00400000#32, status := 0x00000402#32 }

/-- The same in kernel mode. -/
def kernel (l : List (RegIdx × Word)) : State := { regs l with status := 0x00000400#32 }

/-- A state with floating point registers set. -/
def fregs (l : List (RegIdx × Word)) : State := l.foldl (fun s p => s.setF p.1 p.2) (regs [])

/-- A state with some words in memory. -/
def withWords (l : List (Word × Word)) (s : State) : State :=
  l.foldl (fun t p => t.storeAll (wordBytes t.params.bigEndian p.1 p.2)) s

/-- The same state of the big-endian machine. -/
def bigEndian (s : State) : State := { s with params := { s.params with bigEndian := true } }

/-- The same state of the machine with both kinds of delay slot (R471, R472). -/
def slots (s : State) : State :=
  { s with params := { s.params with branchDelaySlot := true, loadDelaySlot := true } }

/-- The same state with memory only below 0x20000000 (R60). -/
def smallMemory (s : State) : State := { s with params := { s.params with memMap := [⟨0, 0x20000000⟩] } }

/-- The same state with user mode kept below 0x80000000 (R77). -/
def kuseg (s : State) : State := { s with params := { s.params with enforceKuseg := true } }

/-- Whether the outcome is a next state with a property. -/
def ends (o : Host.Outcome State Fault Refusal) (p : State → Bool) : Bool :=
  match o with
  | .next t => p t
  | .fault _ => false
  | .refused _ => false

/-- Whether the outcome is a refusal for a reason. -/
def refuses (o : Host.Outcome State Fault Refusal) (r : Refusal) : Bool :=
  match o with
  | .refused q => q == r
  | .next _ => false
  | .fault _ => false

/-- Whether an exception has been taken: its code, and the address in `EPC`. -/
def took (t : State) (code : BitVec 4) (epc : Word) : Bool :=
  t.excCode == code && t.epc == epc && t.pc == 0x80000080#32 && !t.userMode

/-! Decoding: for every bare instruction its word, written out from the encodings of spec/opcode_table.json, the
fields 3 (rs), 4 (rt), 18 (rd), 21 (shamt), 0x8005 (imm16), 6, 10, 12 (fd, fs, ft). -/

theorem test_decode_register_format_1 :
    decodeWord 0b00000000000001001001010101000000#32 = .instr (.sll 18#5 4#5 21#5) ∧
    decodeWord 0b00000000000001001001010101000010#32 = .instr (.srl 18#5 4#5 21#5) ∧
    decodeWord 0b00000000000001001001010101000011#32 = .instr (.sra 18#5 4#5 21#5) ∧
    decodeWord 0b00000000011001001001000000000100#32 = .instr (.sllv 18#5 4#5 3#5) ∧
    decodeWord 0b00000000011001001001000000000110#32 = .instr (.srlv 18#5 4#5 3#5) ∧
    decodeWord 0b00000000011001001001000000000111#32 = .instr (.srav 18#5 4#5 3#5) ∧
    decodeWord 0b00000000011000000000000000001000#32 = .instr (.jr 3#5) ∧
    decodeWord 0b00000000011000001001000000001001#32 = .instr (.jalr 18#5 3#5) ∧
    decodeWord 0b00000010000000000000000111001100#32 = .instr (.syscall 524295#20) ∧
    decodeWord 0b00000010000000000000000111001101#32 = .instr (.brk 524295#20) ∧
    decodeWord 0b00000000000000001001000000010000#32 = .instr (.mfhi 18#5) ∧
    decodeWord 0b00000000011000000000000000010001#32 = .instr (.mthi 3#5) ∧
    decodeWord 0b00000000000000001001000000010010#32 = .instr (.mflo 18#5) ∧
    decodeWord 0b00000000011000000000000000010011#32 = .instr (.mtlo 3#5) := by decide

theorem test_encode_register_format_1 :
    encodeWord (.sll 18#5 4#5 21#5) = some 0b00000000000001001001010101000000#32 ∧
    encodeWord (.srl 18#5 4#5 21#5) = some 0b00000000000001001001010101000010#32 ∧
    encodeWord (.sra 18#5 4#5 21#5) = some 0b00000000000001001001010101000011#32 ∧
    encodeWord (.sllv 18#5 4#5 3#5) = some 0b00000000011001001001000000000100#32 ∧
    encodeWord (.srlv 18#5 4#5 3#5) = some 0b00000000011001001001000000000110#32 ∧
    encodeWord (.srav 18#5 4#5 3#5) = some 0b00000000011001001001000000000111#32 ∧
    encodeWord (.jr 3#5) = some 0b00000000011000000000000000001000#32 ∧
    encodeWord (.jalr 18#5 3#5) = some 0b00000000011000001001000000001001#32 ∧
    encodeWord (.syscall 524295#20) = some 0b00000010000000000000000111001100#32 ∧
    encodeWord (.brk 524295#20) = some 0b00000010000000000000000111001101#32 ∧
    encodeWord (.mfhi 18#5) = some 0b00000000000000001001000000010000#32 ∧
    encodeWord (.mthi 3#5) = some 0b00000000011000000000000000010001#32 ∧
    encodeWord (.mflo 18#5) = some 0b00000000000000001001000000010010#32 ∧
    encodeWord (.mtlo 3#5) = some 0b00000000011000000000000000010011#32 := by decide

theorem test_decode_register_format_2 :
    decodeWord 0b00000000011001000000000000011000#32 = .instr (.mult 3#5 4#5) ∧
    decodeWord 0b00000000011001000000000000011001#32 = .instr (.multu 3#5 4#5) ∧
    decodeWord 0b00000000011001000000000000011010#32 = .instr (.div 3#5 4#5) ∧
    decodeWord 0b00000000011001000000000000011011#32 = .instr (.divu 3#5 4#5) ∧
    decodeWord 0b00000000011001001001000000100000#32 = .instr (.add 18#5 3#5 4#5) ∧
    decodeWord 0b00000000011001001001000000100001#32 = .instr (.addu 18#5 3#5 4#5) ∧
    decodeWord 0b00000000011001001001000000100010#32 = .instr (.sub 18#5 3#5 4#5) ∧
    decodeWord 0b00000000011001001001000000100011#32 = .instr (.subu 18#5 3#5 4#5) ∧
    decodeWord 0b00000000011001001001000000100100#32 = .instr (.and 18#5 3#5 4#5) ∧
    decodeWord 0b00000000011001001001000000100101#32 = .instr (.or 18#5 3#5 4#5) ∧
    decodeWord 0b00000000011001001001000000100110#32 = .instr (.xor 18#5 3#5 4#5) ∧
    decodeWord 0b00000000011001001001000000100111#32 = .instr (.nor 18#5 3#5 4#5) ∧
    decodeWord 0b00000000011001001001000000101010#32 = .instr (.slt 18#5 3#5 4#5) ∧
    decodeWord 0b00000000011001001001000000101011#32 = .instr (.sltu 18#5 3#5 4#5) := by decide

theorem test_encode_register_format_2 :
    encodeWord (.mult 3#5 4#5) = some 0b00000000011001000000000000011000#32 ∧
    encodeWord (.multu 3#5 4#5) = some 0b00000000011001000000000000011001#32 ∧
    encodeWord (.div 3#5 4#5) = some 0b00000000011001000000000000011010#32 ∧
    encodeWord (.divu 3#5 4#5) = some 0b00000000011001000000000000011011#32 ∧
    encodeWord (.add 18#5 3#5 4#5) = some 0b00000000011001001001000000100000#32 ∧
    encodeWord (.addu 18#5 3#5 4#5) = some 0b00000000011001001001000000100001#32 ∧
    encodeWord (.sub 18#5 3#5 4#5) = some 0b00000000011001001001000000100010#32 ∧
    encodeWord (.subu 18#5 3#5 4#5) = some 0b00000000011001001001000000100011#32 ∧
    encodeWord (.and 18#5 3#5 4#5) = some 0b00000000011001001001000000100100#32 ∧
    encodeWord (.or 18#5 3#5 4#5) = some 0b00000000011001001001000000100101#32 ∧
    encodeWord (.xor 18#5 3#5 4#5) = some 0b00000000011001001001000000100110#32 ∧
    encodeWord (.nor 18#5 3#5 4#5) = some 0b00000000011001001001000000100111#32 ∧
    encodeWord (.slt 18#5 3#5 4#5) = some 0b00000000011001001001000000101010#32 ∧
    encodeWord (.sltu 18#5 3#5 4#5) = some 0b00000000011001001001000000101011#32 := by decide

theorem test_decode_immediate_format_1 :
    decodeWord 0b00000100011000001000000000000101#32 = .instr (.bltz 3#5 32773#16) ∧
    decodeWord 0b00000100011000011000000000000101#32 = .instr (.bgez 3#5 32773#16) ∧
    decodeWord 0b00000100011100001000000000000101#32 = .instr (.bltzal 3#5 32773#16) ∧
    decodeWord 0b00000100011100011000000000000101#32 = .instr (.bgezal 3#5 32773#16) ∧
    decodeWord 0b00010000011001001000000000000101#32 = .instr (.beq 3#5 4#5 32773#16) ∧
    decodeWord 0b00010100011001001000000000000101#32 = .instr (.bne 3#5 4#5 32773#16) ∧
    decodeWord 0b00011000011000001000000000000101#32 = .instr (.blez 3#5 32773#16) ∧
    decodeWord 0b00011100011000001000000000000101#32 = .instr (.bgtz 3#5 32773#16) ∧
    decodeWord 0b00100000011001001000000000000101#32 = .instr (.addi 4#5 3#5 32773#16) ∧
    decodeWord 0b00100100011001001000000000000101#32 = .instr (.addiu 4#5 3#5 32773#16) ∧
    decodeWord 0b00101000011001001000000000000101#32 = .instr (.slti 4#5 3#5 32773#16) ∧
    decodeWord 0b00101100011001001000000000000101#32 = .instr (.sltiu 4#5 3#5 32773#16) ∧
    decodeWord 0b00110000011001001000000000000101#32 = .instr (.andi 4#5 3#5 32773#16) ∧
    decodeWord 0b00110100011001001000000000000101#32 = .instr (.ori 4#5 3#5 32773#16) := by decide

theorem test_encode_immediate_format_1 :
    encodeWord (.bltz 3#5 32773#16) = some 0b00000100011000001000000000000101#32 ∧
    encodeWord (.bgez 3#5 32773#16) = some 0b00000100011000011000000000000101#32 ∧
    encodeWord (.bltzal 3#5 32773#16) = some 0b00000100011100001000000000000101#32 ∧
    encodeWord (.bgezal 3#5 32773#16) = some 0b00000100011100011000000000000101#32 ∧
    encodeWord (.beq 3#5 4#5 32773#16) = some 0b00010000011001001000000000000101#32 ∧
    encodeWord (.bne 3#5 4#5 32773#16) = some 0b00010100011001001000000000000101#32 ∧
    encodeWord (.blez 3#5 32773#16) = some 0b00011000011000001000000000000101#32 ∧
    encodeWord (.bgtz 3#5 32773#16) = some 0b00011100011000001000000000000101#32 ∧
    encodeWord (.addi 4#5 3#5 32773#16) = some 0b00100000011001001000000000000101#32 ∧
    encodeWord (.addiu 4#5 3#5 32773#16) = some 0b00100100011001001000000000000101#32 ∧
    encodeWord (.slti 4#5 3#5 32773#16) = some 0b00101000011001001000000000000101#32 ∧
    encodeWord (.sltiu 4#5 3#5 32773#16) = some 0b00101100011001001000000000000101#32 ∧
    encodeWord (.andi 4#5 3#5 32773#16) = some 0b00110000011001001000000000000101#32 ∧
    encodeWord (.ori 4#5 3#5 32773#16) = some 0b00110100011001001000000000000101#32 := by decide

theorem test_decode_immediate_format_2 :
    decodeWord 0b00111000011001001000000000000101#32 = .instr (.xori 4#5 3#5 32773#16) ∧
    decodeWord 0b00111100000001001000000000000101#32 = .instr (.lui 4#5 32773#16) := by decide

theorem test_encode_immediate_format_2 :
    encodeWord (.xori 4#5 3#5 32773#16) = some 0b00111000011001001000000000000101#32 ∧
    encodeWord (.lui 4#5 32773#16) = some 0b00111100000001001000000000000101#32 := by decide

theorem test_decode_jump_format :
    decodeWord 0b00001010000100000000000000000011#32 = .instr (.j 34603011#26) ∧
    decodeWord 0b00001110000100000000000000000011#32 = .instr (.jal 34603011#26) := by decide

theorem test_encode_jump_format :
    encodeWord (.j 34603011#26) = some 0b00001010000100000000000000000011#32 ∧
    encodeWord (.jal 34603011#26) = some 0b00001110000100000000000000000011#32 := by decide

theorem test_decode_coprocessor_format_1 :
    decodeWord 0b01000000000001001001000000000000#32 = .instr (.mfc0 4#5 18#5) ∧
    decodeWord 0b01000100000001001001000000000000#32 = .instr (.mfc1 4#5 18#5) ∧
    decodeWord 0b01001000000001001001000000000000#32 = .instr (.mfc2 4#5 18#5) ∧
    decodeWord 0b01001100000001001001000000000000#32 = .instr (.mfc3 4#5 18#5) ∧
    decodeWord 0b01000000100001001001000000000000#32 = .instr (.mtc0 4#5 18#5) ∧
    decodeWord 0b01000100100001001001000000000000#32 = .instr (.mtc1 4#5 18#5) ∧
    decodeWord 0b01001000100001001001000000000000#32 = .instr (.mtc2 4#5 18#5) ∧
    decodeWord 0b01001100100001001001000000000000#32 = .instr (.mtc3 4#5 18#5) ∧
    decodeWord 0b01000001000000001000000000000101#32 = .instr (.bc0f 32773#16) ∧
    decodeWord 0b01000101000000001000000000000101#32 = .instr (.bc1f 32773#16) ∧
    decodeWord 0b01001001000000001000000000000101#32 = .instr (.bc2f 32773#16) ∧
    decodeWord 0b01001101000000001000000000000101#32 = .instr (.bc3f 32773#16) ∧
    decodeWord 0b01000001000000011000000000000101#32 = .instr (.bc0t 32773#16) ∧
    decodeWord 0b01000101000000011000000000000101#32 = .instr (.bc1t 32773#16) := by decide

theorem test_encode_coprocessor_format_1 :
    encodeWord (.mfc0 4#5 18#5) = some 0b01000000000001001001000000000000#32 ∧
    encodeWord (.mfc1 4#5 18#5) = some 0b01000100000001001001000000000000#32 ∧
    encodeWord (.mfc2 4#5 18#5) = some 0b01001000000001001001000000000000#32 ∧
    encodeWord (.mfc3 4#5 18#5) = some 0b01001100000001001001000000000000#32 ∧
    encodeWord (.mtc0 4#5 18#5) = some 0b01000000100001001001000000000000#32 ∧
    encodeWord (.mtc1 4#5 18#5) = some 0b01000100100001001001000000000000#32 ∧
    encodeWord (.mtc2 4#5 18#5) = some 0b01001000100001001001000000000000#32 ∧
    encodeWord (.mtc3 4#5 18#5) = some 0b01001100100001001001000000000000#32 ∧
    encodeWord (.bc0f 32773#16) = some 0b01000001000000001000000000000101#32 ∧
    encodeWord (.bc1f 32773#16) = some 0b01000101000000001000000000000101#32 ∧
    encodeWord (.bc2f 32773#16) = some 0b01001001000000001000000000000101#32 ∧
    encodeWord (.bc3f 32773#16) = some 0b01001101000000001000000000000101#32 ∧
    encodeWord (.bc0t 32773#16) = some 0b01000001000000011000000000000101#32 ∧
    encodeWord (.bc1t 32773#16) = some 0b01000101000000011000000000000101#32 := by decide

theorem test_decode_coprocessor_format_2 :
    decodeWord 0b01001001000000011000000000000101#32 = .instr (.bc2t 32773#16) ∧
    decodeWord 0b01001101000000011000000000000101#32 = .instr (.bc3t 32773#16) ∧
    decodeWord 0b01000010000000000000000000010000#32 = .instr .rfe := by decide

theorem test_encode_coprocessor_format_2 :
    encodeWord (.bc2t 32773#16) = some 0b01001001000000011000000000000101#32 ∧
    encodeWord (.bc3t 32773#16) = some 0b01001101000000011000000000000101#32 ∧
    encodeWord .rfe = some 0b01000010000000000000000000010000#32 := by decide

theorem test_decode_floating_format_1 :
    decodeWord 0b01000110001011000101000110000000#32 = .instr (.addD 6#5 10#5 12#5) ∧
    decodeWord 0b01000110000011000101000110000000#32 = .instr (.addS 6#5 10#5 12#5) ∧
    decodeWord 0b01000110001011000101000110000001#32 = .instr (.subD 6#5 10#5 12#5) ∧
    decodeWord 0b01000110000011000101000110000001#32 = .instr (.subS 6#5 10#5 12#5) ∧
    decodeWord 0b01000110001011000101000110000010#32 = .instr (.mulD 6#5 10#5 12#5) ∧
    decodeWord 0b01000110000011000101000110000010#32 = .instr (.mulS 6#5 10#5 12#5) ∧
    decodeWord 0b01000110001011000101000110000011#32 = .instr (.divD 6#5 10#5 12#5) ∧
    decodeWord 0b01000110000011000101000110000011#32 = .instr (.divS 6#5 10#5 12#5) ∧
    decodeWord 0b01000110001000000101000110000101#32 = .instr (.absD 6#5 10#5) ∧
    decodeWord 0b01000110000000000101000110000101#32 = .instr (.absS 6#5 10#5) ∧
    decodeWord 0b01000110001000000101000110000110#32 = .instr (.movD 6#5 10#5) ∧
    decodeWord 0b01000110000000000101000110000110#32 = .instr (.movS 6#5 10#5) ∧
    decodeWord 0b01000110001000000101000110000111#32 = .instr (.negD 6#5 10#5) ∧
    decodeWord 0b01000110000000000101000110000111#32 = .instr (.negS 6#5 10#5) := by decide

theorem test_encode_floating_format_1 :
    encodeWord (.addD 6#5 10#5 12#5) = some 0b01000110001011000101000110000000#32 ∧
    encodeWord (.addS 6#5 10#5 12#5) = some 0b01000110000011000101000110000000#32 ∧
    encodeWord (.subD 6#5 10#5 12#5) = some 0b01000110001011000101000110000001#32 ∧
    encodeWord (.subS 6#5 10#5 12#5) = some 0b01000110000011000101000110000001#32 ∧
    encodeWord (.mulD 6#5 10#5 12#5) = some 0b01000110001011000101000110000010#32 ∧
    encodeWord (.mulS 6#5 10#5 12#5) = some 0b01000110000011000101000110000010#32 ∧
    encodeWord (.divD 6#5 10#5 12#5) = some 0b01000110001011000101000110000011#32 ∧
    encodeWord (.divS 6#5 10#5 12#5) = some 0b01000110000011000101000110000011#32 ∧
    encodeWord (.absD 6#5 10#5) = some 0b01000110001000000101000110000101#32 ∧
    encodeWord (.absS 6#5 10#5) = some 0b01000110000000000101000110000101#32 ∧
    encodeWord (.movD 6#5 10#5) = some 0b01000110001000000101000110000110#32 ∧
    encodeWord (.movS 6#5 10#5) = some 0b01000110000000000101000110000110#32 ∧
    encodeWord (.negD 6#5 10#5) = some 0b01000110001000000101000110000111#32 ∧
    encodeWord (.negS 6#5 10#5) = some 0b01000110000000000101000110000111#32 := by decide

theorem test_decode_floating_format_2 :
    decodeWord 0b01000110000000000101000110100001#32 = .instr (.cvtDS 6#5 10#5) ∧
    decodeWord 0b01000110100000000101000110100001#32 = .instr (.cvtDW 6#5 10#5) ∧
    decodeWord 0b01000110001000000101000110100000#32 = .instr (.cvtSD 6#5 10#5) ∧
    decodeWord 0b01000110100000000101000110100000#32 = .instr (.cvtSW 6#5 10#5) ∧
    decodeWord 0b01000110001000000101000110100100#32 = .instr (.cvtWD 6#5 10#5) ∧
    decodeWord 0b01000110000000000101000110100100#32 = .instr (.cvtWS 6#5 10#5) ∧
    decodeWord 0b01000110001011000101000000110010#32 = .instr (.cEqD 10#5 12#5) ∧
    decodeWord 0b01000110000011000101000000110010#32 = .instr (.cEqS 10#5 12#5) ∧
    decodeWord 0b01000110001011000101000000111110#32 = .instr (.cLeD 10#5 12#5) ∧
    decodeWord 0b01000110000011000101000000111110#32 = .instr (.cLeS 10#5 12#5) ∧
    decodeWord 0b01000110001011000101000000111100#32 = .instr (.cLtD 10#5 12#5) ∧
    decodeWord 0b01000110000011000101000000111100#32 = .instr (.cLtS 10#5 12#5) := by decide

theorem test_encode_floating_format_2 :
    encodeWord (.cvtDS 6#5 10#5) = some 0b01000110000000000101000110100001#32 ∧
    encodeWord (.cvtDW 6#5 10#5) = some 0b01000110100000000101000110100001#32 ∧
    encodeWord (.cvtSD 6#5 10#5) = some 0b01000110001000000101000110100000#32 ∧
    encodeWord (.cvtSW 6#5 10#5) = some 0b01000110100000000101000110100000#32 ∧
    encodeWord (.cvtWD 6#5 10#5) = some 0b01000110001000000101000110100100#32 ∧
    encodeWord (.cvtWS 6#5 10#5) = some 0b01000110000000000101000110100100#32 ∧
    encodeWord (.cEqD 10#5 12#5) = some 0b01000110001011000101000000110010#32 ∧
    encodeWord (.cEqS 10#5 12#5) = some 0b01000110000011000101000000110010#32 ∧
    encodeWord (.cLeD 10#5 12#5) = some 0b01000110001011000101000000111110#32 ∧
    encodeWord (.cLeS 10#5 12#5) = some 0b01000110000011000101000000111110#32 ∧
    encodeWord (.cLtD 10#5 12#5) = some 0b01000110001011000101000000111100#32 ∧
    encodeWord (.cLtS 10#5 12#5) = some 0b01000110000011000101000000111100#32 := by decide

theorem test_decode_loads_and_stores_1 :
    decodeWord 0b10000000011001001000000000000101#32 = .instr (.lb 4#5 32773#16 3#5) ∧
    decodeWord 0b10000100011001001000000000000101#32 = .instr (.lh 4#5 32773#16 3#5) ∧
    decodeWord 0b10001000011001001000000000000101#32 = .instr (.lwl 4#5 32773#16 3#5) ∧
    decodeWord 0b10001100011001001000000000000101#32 = .instr (.lw 4#5 32773#16 3#5) ∧
    decodeWord 0b10010000011001001000000000000101#32 = .instr (.lbu 4#5 32773#16 3#5) ∧
    decodeWord 0b10010100011001001000000000000101#32 = .instr (.lhu 4#5 32773#16 3#5) ∧
    decodeWord 0b10011000011001001000000000000101#32 = .instr (.lwr 4#5 32773#16 3#5) ∧
    decodeWord 0b10100000011001001000000000000101#32 = .instr (.sb 4#5 32773#16 3#5) ∧
    decodeWord 0b10100100011001001000000000000101#32 = .instr (.sh 4#5 32773#16 3#5) ∧
    decodeWord 0b10101000011001001000000000000101#32 = .instr (.swl 4#5 32773#16 3#5) ∧
    decodeWord 0b10101100011001001000000000000101#32 = .instr (.sw 4#5 32773#16 3#5) ∧
    decodeWord 0b10111000011001001000000000000101#32 = .instr (.swr 4#5 32773#16 3#5) ∧
    decodeWord 0b11000000011001001000000000000101#32 = .instr (.lwc0 4#5 32773#16 3#5) ∧
    decodeWord 0b11000100011001001000000000000101#32 = .instr (.lwc1 4#5 32773#16 3#5) := by decide

theorem test_encode_loads_and_stores_1 :
    encodeWord (.lb 4#5 32773#16 3#5) = some 0b10000000011001001000000000000101#32 ∧
    encodeWord (.lh 4#5 32773#16 3#5) = some 0b10000100011001001000000000000101#32 ∧
    encodeWord (.lwl 4#5 32773#16 3#5) = some 0b10001000011001001000000000000101#32 ∧
    encodeWord (.lw 4#5 32773#16 3#5) = some 0b10001100011001001000000000000101#32 ∧
    encodeWord (.lbu 4#5 32773#16 3#5) = some 0b10010000011001001000000000000101#32 ∧
    encodeWord (.lhu 4#5 32773#16 3#5) = some 0b10010100011001001000000000000101#32 ∧
    encodeWord (.lwr 4#5 32773#16 3#5) = some 0b10011000011001001000000000000101#32 ∧
    encodeWord (.sb 4#5 32773#16 3#5) = some 0b10100000011001001000000000000101#32 ∧
    encodeWord (.sh 4#5 32773#16 3#5) = some 0b10100100011001001000000000000101#32 ∧
    encodeWord (.swl 4#5 32773#16 3#5) = some 0b10101000011001001000000000000101#32 ∧
    encodeWord (.sw 4#5 32773#16 3#5) = some 0b10101100011001001000000000000101#32 ∧
    encodeWord (.swr 4#5 32773#16 3#5) = some 0b10111000011001001000000000000101#32 ∧
    encodeWord (.lwc0 4#5 32773#16 3#5) = some 0b11000000011001001000000000000101#32 ∧
    encodeWord (.lwc1 4#5 32773#16 3#5) = some 0b11000100011001001000000000000101#32 := by decide

theorem test_decode_loads_and_stores_2 :
    decodeWord 0b11001000011001001000000000000101#32 = .instr (.lwc2 4#5 32773#16 3#5) ∧
    decodeWord 0b11001100011001001000000000000101#32 = .instr (.lwc3 4#5 32773#16 3#5) ∧
    decodeWord 0b11100000011001001000000000000101#32 = .instr (.swc0 4#5 32773#16 3#5) ∧
    decodeWord 0b11100100011001001000000000000101#32 = .instr (.swc1 4#5 32773#16 3#5) ∧
    decodeWord 0b11101000011001001000000000000101#32 = .instr (.swc2 4#5 32773#16 3#5) ∧
    decodeWord 0b11101100011001001000000000000101#32 = .instr (.swc3 4#5 32773#16 3#5) := by decide

theorem test_encode_loads_and_stores_2 :
    encodeWord (.lwc2 4#5 32773#16 3#5) = some 0b11001000011001001000000000000101#32 ∧
    encodeWord (.lwc3 4#5 32773#16 3#5) = some 0b11001100011001001000000000000101#32 ∧
    encodeWord (.swc0 4#5 32773#16 3#5) = some 0b11100000011001001000000000000101#32 ∧
    encodeWord (.swc1 4#5 32773#16 3#5) = some 0b11100100011001001000000000000101#32 ∧
    encodeWord (.swc2 4#5 32773#16 3#5) = some 0b11101000011001001000000000000101#32 ∧
    encodeWord (.swc3 4#5 32773#16 3#5) = some 0b11101100011001001000000000000101#32 := by decide

/-! Words that are no instruction (R112, R113; the two reserved words are those of spec/95_test_vectors.md). -/

theorem test_decode_reserved :
    decodeWord 0xfc000000#32 = .reserved ∧ decodeWord 0x0000003f#32 = .reserved ∧
    decodeWord 0x04020000#32 = .reserved := by decide

/-- An `add` with `shamt` 1, a `jr` with `rd` 1, a `lui` with `rs` 1, an `mfhi` with `rs` 1 (R113 b). -/
theorem test_decode_must_be_zero :
    decodeWord 0x00641060#32 = .mustBeZero ∧ decodeWord 0x00600808#32 = .mustBeZero ∧
    decodeWord 0x3c228000#32 = .mustBeZero ∧ decodeWord 0x00201010#32 = .mustBeZero := by decide

/-- An `mfc0` and an `mtc1` with ones below `rd`, an `rfe` with a one above `funct` (U15, notes/assumptions 14). -/
theorem test_decode_must_be_zero_coprocessor :
    decodeWord 0x40026001#32 = .mustBeZero ∧ decodeWord 0x44822c00#32 = .mustBeZero ∧
    decodeWord 0x42000050#32 = .mustBeZero ∧ decodeWord 0x43000010#32 = .mustBeZero := by decide

/-- `ctc1`, `tlbwr`, `c.un.d`, an operation of coprocessor 2 (R113 a). -/
theorem test_decode_unlisted :
    decodeWord 0x44c00000#32 = .unlisted ∧ decodeWord 0x42000006#32 = .unlisted ∧
    decodeWord 0x46241031#32 = .unlisted ∧ decodeWord 0x4a000000#32 = .unlisted := by decide

theorem test_table_word :
    decodeTableWord 32 0x00641020 = some (.add 2#5 3#5 4#5) ∧ decodeTableWord 32 0xfc000000 = none := by decide

/-! WellFormed refuses a term for each of its checks. -/

theorem test_wellFormed_even_registers :
    wellFormed (.addS 1#5 2#5 4#5) = false ∧ wellFormed (.addS 0#5 3#5 4#5) = false ∧
    wellFormed (.addS 0#5 2#5 5#5) = false ∧ wellFormed (.movD 1#5 2#5) = false ∧
    wellFormed (.movD 0#5 3#5) = false ∧ wellFormed (.cEqS 3#5 4#5) = false ∧
    wellFormed (.cEqS 2#5 5#5) = false ∧ wellFormed (.pLoadD 3#5 0#16 4#5) = false ∧
    wellFormed (.pStoreD 3#5 0#16 4#5) = false ∧ wellFormed (.pLoadS 3#5 (.absolute 0#32)) = false ∧
    wellFormed (.pStoreS 3#5 (.absolute 0#32)) = false ∧ wellFormed (.pMfc1D 2#5 5#5) = false := by decide

theorem test_wellFormed_assembler_temporary :
    wellFormed (.pAbs 1#5 2#5) = false ∧ wellFormed (.pAbs 2#5 1#5) = false ∧
    wellFormed (.pMul 2#5 3#5 (.reg 1#5)) = false ∧ wellFormed (.pRol 2#5 3#5 1#5) = false ∧
    wellFormed (.pRorConst 1#5 3#5 8#32) = false ∧ wellFormed (.pLi 1#5 5#32) = false ∧
    wellFormed (.pBeqz 1#5 0#16) = false ∧ wellFormed (.pBge 3#5 (.reg 1#5) 0#16) = false ∧
    wellFormed (.pLa 2#5 (.indexed 0#32 1#5)) = false ∧ wellFormed (.pUlw 2#5 0#16 1#5) = false ∧
    wellFormed (.pSd 1#5 0#16 4#5) = false ∧ wellFormed (.pStoreS 2#5 (.offset 0#16 1#5)) = false := by decide

theorem test_wellFormed_other_restrictions :
    wellFormed (.pMulo 0#5 3#5 (.reg 4#5)) = false ∧ wellFormed (.pLd 31#5 0#16 4#5) = false ∧
    wellFormed (.pLd 4#5 0#16 4#5) = false ∧ wellFormed (.pLd 2#5 0x7ffc#16 4#5) = false ∧
    wellFormed (.pUlh 4#5 0#16 4#5) = false ∧ wellFormed (.pUlhu 2#5 0x7fff#16 4#5) = false ∧
    wellFormed (.pUlw 2#5 0x7ffd#16 4#5) = false ∧ wellFormed (.pSd 31#5 0#16 4#5) = false ∧
    wellFormed (.pUsw 2#5 0x7ffd#16 4#5) = false ∧ wellFormed (.pMfc1D 31#5 4#5) = false := by decide

theorem test_wellFormed_accepts :
    wellFormed (.pLd 30#5 0x7ffb#16 4#5) = true ∧ wellFormed (.pUlw 2#5 0x7ffc#16 4#5) = true ∧
    wellFormed (.addD 0#5 2#5 30#5) = true ∧ wellFormed (.pMulo 2#5 3#5 (.const 7#32)) = true ∧
    wellFormed (.pSd 4#5 0#16 4#5) = true := by decide

/-! The assembler: names (S2), labels (S12, R106, R107), constants and addresses (S9, S11, R118, R119). -/

theorem test_register_names :
    regNumber "zero" = some 0#5 ∧ regNumber "at" = some 1#5 ∧ regNumber "a3" = some 7#5 ∧
    regNumber "t7" = some 15#5 ∧ regNumber "t9" = some 25#5 ∧ regNumber "ra" = some 31#5 ∧
    regNumber "pc" = none := by decide

theorem test_branch_reach :
    branchField 0x00400000#32 0x00420000#32 = some 0x7fff#16 ∧
    branchField 0x00400000#32 0x003e0004#32 = some 0x8000#16 ∧
    branchField 0x00400000#32 0x00420004#32 = none ∧ branchField 0x00400000#32 0x00400002#32 = none := by decide

theorem test_jump_reach :
    jumpField 0x00400000#32 0x0040000c#32 = some 0x100003#26 ∧ jumpField 0x00400000#32 0x10000000#32 = none := by
  decide

theorem test_constant_operands :
    Src2Op.add.withConstant 2#5 3#5 5 = some [.addi 2#5 3#5 5#16] ∧
    Src2Op.sub.withConstant 2#5 3#5 5 = some [.addi 2#5 3#5 0xfffb#16] ∧
    Src2Op.add.withConstant 2#5 3#5 100000 = some
      [.lui 1#5 1#16, .ori 1#5 1#5 0x86a0#16, .add 2#5 3#5 1#5] ∧
    Src2Op.nor.withConstant 2#5 3#5 7 = some [.addiu 1#5 0#5 7#16, .nor 2#5 3#5 1#5] := by decide

/-- The first and the last constant that the assembler accepts, and their neighbours; a shift needs its low five bits
only (R118, R121, R200). -/
theorem test_constant_range :
    constantWord (-0x80000000) = some 0x80000000#32 ∧ constantWord (-0x80000001) = none ∧
    constantWord 0xffffffff = some 0xffffffff#32 ∧ constantWord 0x100000000 = none ∧
    Src2Op.add.withConstant 2#5 3#5 0x100000000 = none ∧
    branchWithConstant false .beq 3#5 (-0x80000001) 2#16 = none ∧
    Src2Op.sll.withConstant 2#5 3#5 0x100000001 = some [.sll 2#5 3#5 1#5] := by decide

theorem test_address_operands :
    withAddress .lw 2#5 (.offset 8#16 5#5) = [.lw 2#5 8#16 5#5] ∧
    withAddress .lw 2#5 (.absolute 0x1000a004#32) = [.lui 1#5 0x1001#16, .lw 2#5 0xa004#16 1#5] ∧
    withAddress .sw 2#5 (.indexed 0x10000014#32 5#5) =
      [.lui 1#5 0x1000#16, .addu 1#5 1#5 5#5, .sw 2#5 0x14#16 1#5] ∧
    branchWithConstant false .beq 3#5 5 2#16 = some [.addiu 1#5 0#5 5#16, .beq 3#5 1#5 2#16] ∧
    branchWithConstant true .beq 3#5 5 2#16 =
      some [.addiu 1#5 0#5 5#16, .beq 3#5 1#5 2#16, .sll 0#5 0#5 0#5] := by decide

/-! The reference expansions, as the words of spec/95_test_vectors.md. -/

theorem test_words_arithmetic :
    encode false false (.pNot 2#5 3#5) =
      [0x00601027#32] ∧
    encode false false (.pNeg 2#5 3#5) =
      [0x00031022#32] ∧
    encode false false (.pNegu 2#5 3#5) =
      [0x00031023#32] ∧
    encode false false (.pAbs 2#5 3#5) =
      [0x00031021#32, 0x04610001#32, 0x00031022#32] ∧
    encode false false (.pMul 2#5 3#5 (.reg 4#5)) =
      [0x00640018#32, 0x00001012#32] ∧
    encode false false (.pMulo 2#5 3#5 (.reg 4#5)) =
      [0x00640018#32, 0x00000810#32, 0x00001012#32, 0x000217c3#32, 0x10410001#32, 0x0000018d#32, 0x00001012#32] ∧
    encode false false (.pMulou 2#5 3#5 (.reg 4#5)) =
      [0x00640019#32, 0x00000810#32, 0x10200001#32, 0x0000018d#32, 0x00001012#32] := by decide

theorem test_words_divide :
    encode false false (.pDiv 2#5 3#5 (.reg 4#5)) =
      [0x14800001#32, 0x000001cd#32, 0x0064001a#32, 0x00800827#32, 0x14200003#32, 0x3c018000#32, 0x14610001#32, 0x0000018d#32, 0x00001012#32] ∧
    encode false false (.pDivu 2#5 3#5 (.reg 4#5)) =
      [0x14800001#32, 0x000001cd#32, 0x0064001b#32, 0x00001012#32] ∧
    encode false false (.pRem 2#5 3#5 (.reg 4#5)) =
      [0x14800001#32, 0x000001cd#32, 0x0064001a#32, 0x00001010#32] ∧
    encode false false (.pRemu 2#5 3#5 (.reg 4#5)) =
      [0x14800001#32, 0x000001cd#32, 0x0064001b#32, 0x00001010#32] := by decide

theorem test_words_rotate :
    encode false false (.pRol 2#5 3#5 4#5) =
      [0x00040823#32, 0x00230806#32, 0x00831004#32, 0x00411025#32] ∧
    encode false false (.pRor 2#5 3#5 4#5) =
      [0x00040823#32, 0x00230804#32, 0x00831006#32, 0x00411025#32] ∧
    encode false false (.pRolConst 2#5 3#5 8#32) =
      [0x00030a00#32, 0x00031602#32, 0x00411025#32] ∧
    encode false false (.pRorConst 2#5 3#5 8#32) =
      [0x00030a02#32, 0x00031600#32, 0x00411025#32] := by decide

theorem test_words_constants :
    encode false false (.pLi 2#5 0xffffffff#32) =
      [0x2402ffff#32] ∧
    encode false false (.pLi 2#5 0xffff#32) =
      [0x3402ffff#32] ∧
    encode false false (.pLi 2#5 0x10000#32) =
      [0x3c020001#32] ∧
    encode false false (.pLi 2#5 0x12345678#32) =
      [0x3c021234#32, 0x34425678#32] ∧
    encode false false (.pLi 2#5 0xffff7fff#32) =
      [0x3c02ffff#32, 0x34427fff#32] ∧
    encode false false (.pMove 2#5 3#5) =
      [0x00031021#32] ∧
    encode false false (.pNop) =
      [0x00000000#32] := by decide

theorem test_words_comparisons :
    encode false false (.pSeq 2#5 3#5 (.reg 4#5)) =
      [0x00641026#32, 0x2c420001#32] ∧
    encode false false (.pSne 2#5 3#5 (.reg 4#5)) =
      [0x00641026#32, 0x0002102b#32] ∧
    encode false false (.pSge 2#5 3#5 (.reg 4#5)) =
      [0x0064102a#32, 0x38420001#32] ∧
    encode false false (.pSgeu 2#5 3#5 (.reg 4#5)) =
      [0x0064102b#32, 0x38420001#32] ∧
    encode false false (.pSgt 2#5 3#5 (.reg 4#5)) =
      [0x0083102a#32] ∧
    encode false false (.pSgtu 2#5 3#5 (.reg 4#5)) =
      [0x0083102b#32] ∧
    encode false false (.pSle 2#5 3#5 (.reg 4#5)) =
      [0x0083102a#32, 0x38420001#32] ∧
    encode false false (.pSleu 2#5 3#5 (.reg 4#5)) =
      [0x0083102b#32, 0x38420001#32] ∧
    encode false false (.pSeq 2#5 3#5 (.const 7#32)) =
      [0x24010007#32, 0x00611026#32, 0x2c420001#32] := by decide

theorem test_words_branches :
    encode false false (.pB 2#16) =
      [0x10000002#32] ∧
    encode false false (.pBeqz 3#5 2#16) =
      [0x10600002#32] ∧
    encode false false (.pBnez 3#5 2#16) =
      [0x14600002#32] ∧
    encode false false (.pBge 3#5 (.reg 4#5) 2#16) =
      [0x0064082a#32, 0x10200002#32] ∧
    encode false false (.pBgeu 3#5 (.reg 4#5) 2#16) =
      [0x0064082b#32, 0x10200002#32] ∧
    encode false false (.pBgt 3#5 (.reg 4#5) 2#16) =
      [0x0083082a#32, 0x14200002#32] ∧
    encode false false (.pBgtu 3#5 (.reg 4#5) 2#16) =
      [0x0083082b#32, 0x14200002#32] ∧
    encode false false (.pBle 3#5 (.reg 4#5) 2#16) =
      [0x0083082a#32, 0x10200002#32] ∧
    encode false false (.pBleu 3#5 (.reg 4#5) 2#16) =
      [0x0083082b#32, 0x10200002#32] ∧
    encode false false (.pBlt 3#5 (.reg 4#5) 2#16) =
      [0x0064082a#32, 0x14200002#32] ∧
    encode false false (.pBltu 3#5 (.reg 4#5) 2#16) =
      [0x0064082b#32, 0x14200002#32] ∧
    encode false false (.pBlt 3#5 (.const 10#32) 2#16) =
      [0x2401000a#32, 0x0061082a#32, 0x14200002#32] := by decide

theorem test_words_loads_and_stores :
    encode false false (.pLd 2#5 0#16 4#5) =
      [0x8c820000#32, 0x8c830004#32] ∧
    encode false false (.pUlw 2#5 1#16 4#5) =
      [0x88820004#32, 0x98820001#32] ∧
    encode true false (.pUlw 2#5 1#16 4#5) =
      [0x88820001#32, 0x98820004#32] ∧
    encode false false (.pUsw 2#5 1#16 4#5) =
      [0xa8820004#32, 0xb8820001#32] ∧
    encode true false (.pUsw 2#5 1#16 4#5) =
      [0xa8820001#32, 0xb8820004#32] ∧
    encode false false (.pUsh 2#5 3#16 4#5) =
      [0xa0820003#32, 0x00020a02#32, 0xa0810004#32] ∧
    encode true false (.pUsh 2#5 3#16 4#5) =
      [0xa0820004#32, 0x00020a02#32, 0xa0810003#32] ∧
    encode false false (.pSd 2#5 2#16 4#5) =
      [0xac820002#32, 0xac830006#32] ∧
    encode false false (.pMfc1D 2#5 4#5) =
      [0x44022000#32, 0x44032800#32] ∧
    encode false false (.pLoadS 2#5 (.offset 0#16 4#5)) =
      [0xc4820000#32] ∧
    encode false false (.pLoadD 2#5 0#16 4#5) =
      [0xc4820000#32, 0xc4830004#32] ∧
    encode true false (.pLoadD 2#5 0#16 4#5) =
      [0xc4830000#32, 0xc4820004#32] ∧
    encode false false (.pStoreD 2#5 0#16 4#5) =
      [0xe4820000#32, 0xe4830004#32] ∧
    encode false false (.pStoreS 2#5 (.offset 4#16 4#5)) =
      [0xe4820004#32] := by decide

/-- `ulh` and `la`, from the table of R121: `lb rd,k+1(r) ; lbu $at,k(r) ; sll rd,rd,8 ; or rd,rd,$at` on the
little-endian machine, `lui $at,hi ; ori rd,$at,lo`. -/
theorem test_words_from_rule :
    expand false false (.pUlh 2#5 1#16 4#5) =
      [.lb 2#5 2#16 4#5, .lbu 1#5 1#16 4#5, .sll 2#5 2#5 8#5, .or 2#5 2#5 1#5] ∧
    expand true false (.pUlhu 2#5 1#16 4#5) =
      [.lbu 2#5 1#16 4#5, .lbu 1#5 2#16 4#5, .sll 2#5 2#5 8#5, .or 2#5 2#5 1#5] ∧
    expand false false (.pLa 2#5 (.absolute 0x1000a004#32)) = [.lui 1#5 0x1000#16, .ori 2#5 1#5 0xa004#16] := by
  decide

/-- With branch delay slots every branch of an expansion is followed by a `nop` and the internal offsets grow by the
slots they pass (R471 f). -/
theorem test_words_with_slots :
    expand false true (.pAbs 2#5 3#5) =
      [.addu 2#5 0#5 3#5, .bgez 3#5 2#16, .sll 0#5 0#5 0#5, .sub 2#5 0#5 3#5] ∧
    expand false true (.pB 5#16) = [.beq 0#5 0#5 5#16, .sll 0#5 0#5 0#5] ∧
    expand false true (.jr 31#5) = [.jr 31#5, .sll 0#5 0#5 0#5] ∧ expand false true (.mfhi 2#5) = [.mfhi 2#5] := by
  decide

/-! One instruction on a small state. -/

theorem test_add_overflow :
    ends (exec (.add 2#5 3#5 4#5) (regs [(2#5, 0xdeadbeef#32), (3#5, 0x7fffffff#32), (4#5, 0x00000001#32)]))
      (fun t => took t 12#4 0x00400000#32 && t.x 2#5 == 0xdeadbeef#32) = true := by decide

theorem test_add :
    ends (exec (.add 2#5 3#5 4#5) (regs [(3#5, 0x7fffffff#32), (4#5, 0xffffffff#32)]))
      (fun t => t.x 2#5 == 0x7ffffffe#32 && t.pc == 0x00400004#32) = true := by decide

theorem test_addi_overflow :
    ends (exec (.addi 2#5 3#5 0xffff#16) (regs [(2#5, 0xdeadbeef#32), (3#5, 0x80000000#32)]))
      (fun t => took t 12#4 0x00400000#32 && t.x 2#5 == 0xdeadbeef#32) = true := by decide

theorem test_addi :
    ends (exec (.addi 2#5 3#5 0x8000#16) (regs [(3#5, 0x00008000#32)]))
      (fun t => t.x 2#5 == 0#32 && t.pc == 0x00400004#32) = true := by decide

theorem test_addu_wraps :
    ends (exec (.addu 2#5 3#5 4#5) (regs [(3#5, 0xffffffff#32), (4#5, 0x00000001#32)]))
      (fun t => t.x 2#5 == 0#32 && t.pc == 0x00400004#32) = true := by decide

theorem test_addiu_wraps :
    ends (exec (.addiu 2#5 3#5 0xffff#16) (regs [(3#5, 0x80000000#32)]))
      (fun t => t.x 2#5 == 0x7fffffff#32) = true := by decide

theorem test_sub_overflow :
    ends (exec (.sub 2#5 3#5 4#5) (regs [(2#5, 0xdeadbeef#32), (3#5, 0x00000000#32), (4#5, 0x80000000#32)]))
      (fun t => took t 12#4 0x00400000#32 && t.x 2#5 == 0xdeadbeef#32) = true := by decide

theorem test_subu :
    ends (exec (.subu 2#5 3#5 4#5) (regs [(3#5, 0x00000000#32), (4#5, 0x00000001#32)]))
      (fun t => t.x 2#5 == 0xffffffff#32) = true := by decide

theorem test_and :
    ends (exec (.and 2#5 3#5 4#5) (regs [(3#5, 0xff00ff00#32), (4#5, 0x0ff00ff0#32)]))
      (fun t => t.x 2#5 == 0x0f000f00#32) = true := by decide

theorem test_andi :
    ends (exec (.andi 2#5 3#5 0xffff#16) (regs [(3#5, 0xffffffff#32)]))
      (fun t => t.x 2#5 == 0x0000ffff#32) = true := by decide

theorem test_or :
    ends (exec (.or 2#5 3#5 4#5) (regs [(3#5, 0xff00ff00#32), (4#5, 0x0ff00ff0#32)]))
      (fun t => t.x 2#5 == 0xfff0fff0#32) = true := by decide

theorem test_ori :
    ends (exec (.ori 2#5 3#5 0x8000#16) (regs [(3#5, 0x00000000#32)]))
      (fun t => t.x 2#5 == 0x00008000#32) = true := by decide

theorem test_xor :
    ends (exec (.xor 2#5 3#5 4#5) (regs [(3#5, 0xff00ff00#32), (4#5, 0x0ff00ff0#32)]))
      (fun t => t.x 2#5 == 0xf0f0f0f0#32) = true := by decide

theorem test_xori :
    ends (exec (.xori 2#5 3#5 0xffff#16) (regs [(3#5, 0xffffffff#32)]))
      (fun t => t.x 2#5 == 0xffff0000#32) = true := by decide

theorem test_nor :
    ends (exec (.nor 2#5 3#5 4#5) (regs [(3#5, 0xff00ff00#32), (4#5, 0x0ff00ff0#32)]))
      (fun t => t.x 2#5 == 0x000f000f#32) = true := by decide

theorem test_mult :
    ends (exec (.mult 3#5 4#5) (regs [(3#5, 0xffffffff#32), (4#5, 0x00000002#32)]))
      (fun t => t.hi == 0xffffffff#32 && t.lo == 0xfffffffe#32) = true := by decide

theorem test_multu :
    ends (exec (.multu 3#5 4#5) (regs [(3#5, 0xffffffff#32), (4#5, 0x00000002#32)]))
      (fun t => t.hi == 1#32 && t.lo == 0xfffffffe#32) = true := by decide

theorem test_div :
    ends (exec (.div 3#5 4#5) (regs [(3#5, 0xfffffff9#32), (4#5, 0x00000002#32)]))
      (fun t => t.hi == 0xffffffff#32 && t.lo == 0xfffffffd#32) = true := by decide

theorem test_div_by_zero_goes_on :
    ends (exec (.div 3#5 4#5) (regs [(3#5, 0x00000007#32), (4#5, 0x00000000#32)]))
      (fun t => t.pc == 0x00400004#32) = true := by decide

theorem test_divu :
    ends (exec (.divu 3#5 4#5) (regs [(3#5, 0xfffffff9#32), (4#5, 0x00000002#32)]))
      (fun t => t.hi == 1#32 && t.lo == 0x7ffffffc#32) = true := by decide

theorem test_sll :
    ends (exec (.sll 2#5 3#5 31#5) (regs [(3#5, 0x00000003#32)]))
      (fun t => t.x 2#5 == 0x80000000#32) = true := by decide

theorem test_sllv :
    ends (exec (.sllv 2#5 3#5 4#5) (regs [(3#5, 0x00000001#32), (4#5, 0x00000021#32)]))
      (fun t => t.x 2#5 == 2#32) = true := by decide

theorem test_srl :
    ends (exec (.srl 2#5 3#5 4#5) (regs [(3#5, 0x80000000#32)]))
      (fun t => t.x 2#5 == 0x08000000#32) = true := by decide

theorem test_srlv :
    ends (exec (.srlv 2#5 3#5 4#5) (regs [(3#5, 0x80000000#32), (4#5, 0xffffffff#32)]))
      (fun t => t.x 2#5 == 1#32) = true := by decide

theorem test_sra :
    ends (exec (.sra 2#5 3#5 4#5) (regs [(3#5, 0x80000000#32)]))
      (fun t => t.x 2#5 == 0xf8000000#32) = true := by decide

theorem test_srav :
    ends (exec (.srav 2#5 3#5 4#5) (regs [(3#5, 0x80000000#32), (4#5, 0x00000024#32)]))
      (fun t => t.x 2#5 == 0xf8000000#32) = true := by decide

theorem test_lui :
    ends (exec (.lui 2#5 0x8000#16) (regs [(2#5, 0xffffffff#32)]))
      (fun t => t.x 2#5 == 0x80000000#32) = true := by decide

theorem test_slt :
    ends (exec (.slt 2#5 3#5 4#5) (regs [(3#5, 0x80000000#32), (4#5, 0x7fffffff#32)]))
      (fun t => t.x 2#5 == 1#32) = true := by decide

theorem test_sltu :
    ends (exec (.sltu 2#5 3#5 4#5) (regs [(3#5, 0xffffffff#32), (4#5, 0x00000001#32)]))
      (fun t => t.x 2#5 == 0#32) = true := by decide

theorem test_slti :
    ends (exec (.slti 2#5 3#5 0xffff#16) (regs [(3#5, 0xfffffffe#32)]))
      (fun t => t.x 2#5 == 1#32) = true := by decide

theorem test_sltiu :
    ends (exec (.sltiu 2#5 3#5 0xffff#16) (regs [(3#5, 0xfffffffe#32)]))
      (fun t => t.x 2#5 == 1#32) = true := by decide

theorem test_mfhi_mthi :
    ends (exec (.mthi 3#5) (regs [(3#5, 0x11111111#32)]))
      (fun t => t.hi == 0x11111111#32 && t.lo == 0#32 && ends (exec (.mfhi 5#5) t) (·.x 5#5 == 0x11111111#32)) = true := by decide

theorem test_mflo_mtlo :
    ends (exec (.mtlo 4#5) (regs [(4#5, 0x22222222#32)]))
      (fun t => t.lo == 0x22222222#32 && t.hi == 0#32 && ends (exec (.mflo 6#5) t) (·.x 6#5 == 0x22222222#32)) = true := by decide

theorem test_register_zero :
    ends (exec (.addu 0#5 3#5 4#5) (regs [(3#5, 0x00000001#32), (4#5, 0x00000001#32)]))
      (fun t => t.x 0#5 == 0#32 && t.pc == 0x00400004#32) = true := by decide

theorem test_abs :
    ends (exec (.pAbs 2#5 3#5) (regs [(3#5, 0xffffffff#32)]))
      (fun t => t.x 2#5 == 1#32 && t.pc == 0x0040000c#32) = true := by decide

theorem test_abs_overflow :
    ends (exec (.pAbs 2#5 3#5) (regs [(3#5, 0x80000000#32)]))
      (fun t => took t 12#4 0x00400008#32 && t.x 2#5 == 0x80000000#32) = true := by decide

theorem test_neg_overflow :
    ends (exec (.pNeg 2#5 3#5) (regs [(2#5, 0xdeadbeef#32), (3#5, 0x80000000#32)]))
      (fun t => took t 12#4 0x00400000#32 && t.x 2#5 == 0xdeadbeef#32) = true := by decide

theorem test_negu :
    ends (exec (.pNegu 2#5 3#5) (regs [(3#5, 0x80000000#32)]))
      (fun t => t.x 2#5 == 0x80000000#32) = true := by decide

theorem test_not :
    ends (exec (.pNot 2#5 3#5) (regs [(3#5, 0x00000000#32)]))
      (fun t => t.x 2#5 == 0xffffffff#32) = true := by decide

theorem test_mul :
    ends (exec (.pMul 2#5 3#5 (.reg 4#5)) (regs [(3#5, 0x00010000#32), (4#5, 0x00010000#32)]))
      (fun t => t.x 2#5 == 0#32 && t.hi == 1#32) = true := by decide

theorem test_mulo :
    ends (exec (.pMulo 2#5 3#5 (.reg 4#5)) (regs [(3#5, 0x00010000#32), (4#5, 0x00004000#32)]))
      (fun t => t.x 2#5 == 0x40000000#32) = true := by decide

theorem test_mulo_overflow :
    ends (exec (.pMulo 2#5 3#5 (.reg 4#5)) (regs [(3#5, 0x00010000#32), (4#5, 0x00008000#32)]))
      (fun t => took t 9#4 0x00400014#32) = true := by decide

theorem test_mulou :
    ends (exec (.pMulou 2#5 3#5 (.reg 4#5)) (regs [(3#5, 0x0000ffff#32), (4#5, 0x00010001#32)]))
      (fun t => t.x 2#5 == 0xffffffff#32) = true := by decide

theorem test_mulou_overflow :
    ends (exec (.pMulou 2#5 3#5 (.reg 4#5)) (regs [(3#5, 0x00010000#32), (4#5, 0x00010000#32)]))
      (fun t => took t 9#4 0x0040000c#32) = true := by decide

theorem test_divide :
    ends (exec (.pDiv 2#5 3#5 (.reg 4#5)) (regs [(3#5, 0x00000064#32), (4#5, 0x00000007#32)]))
      (fun t => t.x 2#5 == 0xe#32 && t.pc == 0x00400024#32) = true := by decide

theorem test_divide_overflow :
    ends (exec (.pDiv 2#5 3#5 (.reg 4#5)) (regs [(2#5, 0x00000055#32), (3#5, 0x80000000#32), (4#5, 0xffffffff#32)]))
      (fun t => took t 9#4 0x0040001c#32 && t.x 2#5 == 0x55#32) = true := by decide

theorem test_divide_unsigned :
    ends (exec (.pDivu 2#5 3#5 (.reg 4#5)) (regs [(3#5, 0x80000000#32), (4#5, 0xffffffff#32)]))
      (fun t => t.x 2#5 == 0#32) = true := by decide

theorem test_rem :
    ends (exec (.pRem 2#5 3#5 (.reg 4#5)) (regs [(3#5, 0xfffffff9#32), (4#5, 0x00000002#32)]))
      (fun t => t.x 2#5 == 0xffffffff#32) = true := by decide

theorem test_rem_by_zero :
    ends (exec (.pRem 2#5 3#5 (.reg 4#5)) (regs [(2#5, 0x00000055#32), (3#5, 0x00000005#32), (4#5, 0x00000000#32)]))
      (fun t => took t 9#4 0x00400004#32 && t.x 2#5 == 0x55#32) = true := by decide

theorem test_remu :
    ends (exec (.pRemu 2#5 3#5 (.reg 4#5)) (regs [(3#5, 0xfffffff9#32), (4#5, 0x00000010#32)]))
      (fun t => t.x 2#5 == 9#32) = true := by decide

theorem test_rol :
    ends (exec (.pRol 2#5 3#5 4#5) (regs [(3#5, 0x80000001#32), (4#5, 0x00000001#32)]))
      (fun t => t.x 2#5 == 3#32) = true := by decide

theorem test_ror :
    ends (exec (.pRor 2#5 3#5 4#5) (regs [(3#5, 0x80000001#32), (4#5, 0x00000001#32)]))
      (fun t => t.x 2#5 == 0xc0000000#32) = true := by decide

theorem test_rol_constant :
    ends (exec (.pRolConst 2#5 3#5 8#32) (regs [(3#5, 0x12345678#32)]))
      (fun t => t.x 2#5 == 0x34567812#32) = true := by decide

theorem test_ror_constant :
    ends (exec (.pRorConst 2#5 3#5 8#32) (regs [(3#5, 0x12345678#32)]))
      (fun t => t.x 2#5 == 0x78123456#32) = true := by decide

theorem test_li :
    ends (exec (.pLi 2#5 0x12345678#32) (regs []))
      (fun t => t.x 2#5 == 0x12345678#32 && t.pc == 0x00400008#32) = true := by decide

theorem test_seq :
    ends (exec (.pSeq 2#5 3#5 (.const 7#32)) (regs [(3#5, 0x00000007#32)]))
      (fun t => t.x 2#5 == 1#32 && t.pc == 0x0040000c#32) = true := by decide

theorem test_sne :
    ends (exec (.pSne 2#5 3#5 (.reg 4#5)) (regs [(3#5, 0x00000005#32), (4#5, 0x00000006#32)]))
      (fun t => t.x 2#5 == 1#32) = true := by decide

theorem test_sge :
    ends (exec (.pSge 2#5 3#5 (.reg 4#5)) (regs [(3#5, 0xffffffff#32), (4#5, 0x00000000#32)]))
      (fun t => t.x 2#5 == 0#32) = true := by decide

theorem test_sgeu :
    ends (exec (.pSgeu 2#5 3#5 (.reg 4#5)) (regs [(3#5, 0xffffffff#32), (4#5, 0x00000000#32)]))
      (fun t => t.x 2#5 == 1#32) = true := by decide

theorem test_sgt :
    ends (exec (.pSgt 2#5 3#5 (.reg 4#5)) (regs [(3#5, 0x00000001#32), (4#5, 0xffffffff#32)]))
      (fun t => t.x 2#5 == 1#32) = true := by decide

theorem test_sgtu :
    ends (exec (.pSgtu 2#5 3#5 (.reg 4#5)) (regs [(3#5, 0x00000001#32), (4#5, 0xffffffff#32)]))
      (fun t => t.x 2#5 == 0#32) = true := by decide

theorem test_sle :
    ends (exec (.pSle 2#5 3#5 (.reg 4#5)) (regs [(3#5, 0x80000000#32), (4#5, 0x7fffffff#32)]))
      (fun t => t.x 2#5 == 1#32) = true := by decide

theorem test_sleu :
    ends (exec (.pSleu 2#5 3#5 (.reg 4#5)) (regs [(3#5, 0x80000000#32), (4#5, 0x7fffffff#32)]))
      (fun t => t.x 2#5 == 0#32) = true := by decide

theorem test_move :
    ends (exec (.pMove 2#5 3#5) (regs [(3#5, 0x12345678#32)]))
      (fun t => t.x 2#5 == 0x12345678#32) = true := by decide

theorem test_la :
    ends (exec (.pLa 2#5 (.indexed 0x10000014#32 5#5)) (regs [(5#5, 0x00000008#32)]))
      (fun t => t.x 2#5 == 0x1000001c#32) = true := by decide

theorem test_nop :
    ends (exec (.pNop) (regs [(2#5, 0x00000005#32)]))
      (fun t => t.x 2#5 == 5#32 && t.pc == 0x00400004#32) = true := by decide

theorem test_refused_use :
    ends (exec (.pNop) (regs []))
      (fun t => refuses (exec (.pLd 31#5 0#16 4#5) t) .pseudoOutsideRestrictions) = true := by decide

theorem test_beq :
    ends (exec (.beq 3#5 4#5 2#16) (regs [(3#5, 0x00000005#32), (4#5, 0x00000005#32)]))
      (fun t => t.pc == 0x0040000c#32) = true := by decide

theorem test_bne_not_taken :
    ends (exec (.bne 3#5 4#5 2#16) (regs [(3#5, 0x00000005#32), (4#5, 0x00000005#32)]))
      (fun t => t.pc == 0x00400004#32) = true := by decide

theorem test_bgez_not_taken :
    ends (exec (.bgez 3#5 2#16) (regs [(3#5, 0x80000000#32)]))
      (fun t => t.pc == 0x00400004#32) = true := by decide

theorem test_bgtz_not_taken :
    ends (exec (.bgtz 3#5 2#16) (regs [(3#5, 0x00000000#32)]))
      (fun t => t.pc == 0x00400004#32) = true := by decide

theorem test_blez :
    ends (exec (.blez 3#5 2#16) (regs [(3#5, 0x00000000#32)]))
      (fun t => t.pc == 0x0040000c#32) = true := by decide

theorem test_bltz :
    ends (exec (.bltz 3#5 2#16) (regs [(3#5, 0x80000000#32)]))
      (fun t => t.pc == 0x0040000c#32) = true := by decide

theorem test_bgezal_not_taken :
    ends (exec (.bgezal 3#5 2#16) (regs [(3#5, 0xffffffff#32)]))
      (fun t => t.pc == 0x00400004#32 && t.x 31#5 == 0x00400004#32) = true := by decide

theorem test_bltzal :
    ends (exec (.bltzal 31#5 2#16) (regs [(31#5, 0xffffffff#32)]))
      (fun t => t.pc == 0x0040000c#32 && t.x 31#5 == 0x00400004#32) = true := by decide

theorem test_j : ends (exec (.j 0x100003#26) (regs [])) (fun t => t.pc == 0x0040000c#32) = true := by decide

theorem test_jal :
    ends (exec (.jal 0x100003#26) (regs []))
      (fun t => t.pc == 0x0040000c#32 && t.x 31#5 == 0x00400004#32) = true := by decide

theorem test_jr :
    ends (exec (.jr 3#5) (regs [(3#5, 0x00400100#32)]))
      (fun t => t.pc == 0x00400100#32) = true := by decide

theorem test_jalr :
    ends (exec (.jalr 31#5 31#5) (regs [(31#5, 0x00400100#32)]))
      (fun t => t.pc == 0x00400100#32 && t.x 31#5 == 0x00400004#32) = true := by decide

theorem test_b : ends (exec (.pB 2#16) (regs [])) (fun t => t.pc == 0x0040000c#32) = true := by decide

theorem test_b_backward :
    ends (exec (.pB 0xffff#16) (regs []))
      (fun t => t.pc == 0x00400000#32) = true := by decide

theorem test_beqz :
    ends (exec (.pBeqz 3#5 2#16) (regs [(3#5, 0x00000000#32)]))
      (fun t => t.pc == 0x0040000c#32) = true := by decide

theorem test_bnez :
    ends (exec (.pBnez 3#5 2#16) (regs [(3#5, 0x00000000#32)]))
      (fun t => t.pc == 0x00400004#32) = true := by decide

theorem test_bge :
    ends (exec (.pBge 3#5 (.reg 4#5) 2#16) (regs [(3#5, 0xffffffff#32), (4#5, 0x00000000#32)]))
      (fun t => t.pc == 0x00400008#32) = true := by decide

theorem test_bgeu :
    ends (exec (.pBgeu 3#5 (.reg 4#5) 2#16) (regs [(3#5, 0xffffffff#32), (4#5, 0x00000000#32)]))
      (fun t => t.pc == 0x00400010#32) = true := by decide

theorem test_bgt :
    ends (exec (.pBgt 3#5 (.reg 4#5) 2#16) (regs [(3#5, 0x00000001#32), (4#5, 0xffffffff#32)]))
      (fun t => t.pc == 0x00400010#32) = true := by decide

theorem test_bgtu :
    ends (exec (.pBgtu 3#5 (.reg 4#5) 2#16) (regs [(3#5, 0x00000001#32), (4#5, 0xffffffff#32)]))
      (fun t => t.pc == 0x00400008#32) = true := by decide

theorem test_ble :
    ends (exec (.pBle 3#5 (.reg 4#5) 2#16) (regs [(3#5, 0x00000005#32), (4#5, 0x00000005#32)]))
      (fun t => t.pc == 0x00400010#32) = true := by decide

theorem test_bleu :
    ends (exec (.pBleu 3#5 (.reg 4#5) 2#16) (regs [(3#5, 0x80000000#32), (4#5, 0x00000001#32)]))
      (fun t => t.pc == 0x00400008#32) = true := by decide

theorem test_blt :
    ends (exec (.pBlt 3#5 (.reg 4#5) 2#16) (regs [(3#5, 0x80000000#32), (4#5, 0x00000001#32)]))
      (fun t => t.pc == 0x00400010#32) = true := by decide

theorem test_bltu :
    ends (exec (.pBltu 3#5 (.reg 4#5) 2#16) (regs [(3#5, 0x80000000#32), (4#5, 0x00000001#32)]))
      (fun t => t.pc == 0x00400008#32) = true := by decide

/-- 9 < 10, so the branch is taken (R249, R106); the row of spec/95_test_vectors.md prints the address of the third word,
where the vector is a mistake (95_test_vectors.md: the rule is right). -/
theorem test_blt_constant :
    ends (exec (.pBlt 3#5 (.const 10#32) 2#16) (regs [(3#5, 0x00000009#32)]))
      (fun t => t.pc == 0x00400014#32) = true := by decide

theorem test_bc1t :
    ends (exec (.bc1t 1#16) ({ regs [] with cc1 := true }))
      (fun t => t.pc == 0x00400008#32) = true := by decide

theorem test_bc1f :
    ends (exec (.bc1f 1#16) ({ regs [] with cc1 := true }))
      (fun t => t.pc == 0x00400004#32) = true := by decide

/-- The memory of section 2.4 of spec/95_test_vectors.md. -/
def loadState : State :=
  withWords [(0x10000000#32, 0x11223384#32), (0x10000004#32, 0x55667788#32)]
    (regs [(2#5, 0xaaaaaaaa#32), (4#5, 0x10000000#32)])

/-- The same on the big-endian machine. -/
def loadStateBig : State :=
  withWords [(0x10000000#32, 0x11223384#32), (0x10000004#32, 0x55667788#32)]
    (bigEndian (regs [(2#5, 0xaaaaaaaa#32), (4#5, 0x10000000#32)]))

theorem test_lb :
    ends (exec (.lb 2#5 0#16 4#5) (loadState))
      (fun t => t.x 2#5 == 0xffffff84#32) = true := by decide

theorem test_lb_big :
    ends (exec (.lb 2#5 3#16 4#5) (loadStateBig))
      (fun t => t.x 2#5 == 0xffffff84#32) = true := by decide

theorem test_lbu : ends (exec (.lbu 2#5 0#16 4#5) (loadState)) (fun t => t.x 2#5 == 0x84#32) = true := by decide

theorem test_lbu_big :
    ends (exec (.lbu 2#5 0#16 4#5) (loadStateBig))
      (fun t => t.x 2#5 == 0x11#32) = true := by decide

theorem test_lh : ends (exec (.lh 2#5 2#16 4#5) (loadState)) (fun t => t.x 2#5 == 0x1122#32) = true := by decide

theorem test_lh_big :
    ends (exec (.lh 2#5 2#16 4#5) (loadStateBig))
      (fun t => t.x 2#5 == 0x3384#32) = true := by decide

theorem test_lhu :
    ends (exec (.lhu 2#5 2#16 4#5) (loadStateBig))
      (fun t => t.x 2#5 == 0x3384#32) = true := by decide

theorem test_lw :
    ends (exec (.lw 2#5 4#16 4#5) (loadState))
      (fun t => t.x 2#5 == 0x55667788#32) = true := by decide

theorem test_lw_misaligned :
    ends (exec (.lw 2#5 2#16 4#5) (loadState))
      (fun t => took t 4#4 0x00400000#32 && t.badVAddr == 0x10000002#32 && t.x 2#5 == 0xaaaaaaaa#32) = true := by decide

theorem test_ld :
    ends (exec (.pLd 2#5 0#16 4#5) (loadState))
      (fun t => t.x 2#5 == 0x11223384#32 && t.x 3#5 == 0x55667788#32) = true := by decide

theorem test_ulh :
    ends (exec (.pUlh 2#5 3#16 4#5) (loadState))
      (fun t => t.x 2#5 == 0xffff8811#32) = true := by decide

theorem test_ulhu_big :
    ends (exec (.pUlhu 2#5 3#16 4#5) (loadStateBig))
      (fun t => t.x 2#5 == 0x8455#32) = true := by decide

theorem test_ulw :
    ends (exec (.pUlw 2#5 1#16 4#5) (loadState))
      (fun t => t.x 2#5 == 0x88112233#32) = true := by decide

theorem test_ulw_big :
    ends (exec (.pUlw 2#5 1#16 4#5) (loadStateBig))
      (fun t => t.x 2#5 == 0x22338455#32) = true := by decide

theorem test_lwl_big :
    ends (exec (.lwl 2#5 1#16 4#5) (loadStateBig))
      (fun t => t.x 2#5 == 0x223384aa#32) = true := by decide

theorem test_lwl_little :
    ends (exec (.lwl 2#5 2#16 4#5) (loadState))
      (fun t => t.x 2#5 == 0x223384aa#32) = true := by decide

theorem test_lwr_big :
    ends (exec (.lwr 2#5 1#16 4#5) (loadStateBig))
      (fun t => t.x 2#5 == 0xaaaa1122#32) = true := by decide

theorem test_lwr_little :
    ends (exec (.lwr 2#5 2#16 4#5) (loadState))
      (fun t => t.x 2#5 == 0xaaaa1122#32) = true := by decide

/-- The memory and the registers of section 2.5 of spec/95_test_vectors.md. -/
def storeState : State :=
  withWords [(0x10000000#32, 0xaaaaaaaa#32), (0x10000004#32, 0xbbbbbbbb#32)]
    (regs [(2#5, 0x11223344#32), (3#5, 0x55667788#32), (4#5, 0x10000000#32)])

/-- The same on the big-endian machine. -/
def storeStateBig : State :=
  withWords [(0x10000000#32, 0xaaaaaaaa#32), (0x10000004#32, 0xbbbbbbbb#32)]
    (bigEndian (regs [(2#5, 0x11223344#32), (3#5, 0x55667788#32), (4#5, 0x10000000#32)]))

/-- The two words of a state's memory at 0x10000000. -/
def twoWords (t : State) (a b : Word) : Bool := t.word 0x10000000#32 == a && t.word 0x10000004#32 == b

theorem test_sb :
    ends (exec (.sb 2#5 1#16 4#5) (storeState))
      (fun t => twoWords t 0xaaaa44aa#32 0xbbbbbbbb#32) = true := by decide

theorem test_sh :
    ends (exec (.sh 2#5 2#16 4#5) (storeState))
      (fun t => twoWords t 0x3344aaaa#32 0xbbbbbbbb#32) = true := by decide

theorem test_sw :
    ends (exec (.sw 2#5 4#16 4#5) (storeState))
      (fun t => twoWords t 0xaaaaaaaa#32 0x11223344#32) = true := by decide

theorem test_sd :
    ends (exec (.pSd 2#5 0#16 4#5) (storeState))
      (fun t => twoWords t 0x11223344#32 0x55667788#32) = true := by decide

theorem test_swl_big :
    ends (exec (.swl 2#5 1#16 4#5) (storeStateBig))
      (fun t => twoWords t 0xaa112233#32 0xbbbbbbbb#32) = true := by decide

theorem test_swl :
    ends (exec (.swl 2#5 2#16 4#5) (storeState))
      (fun t => twoWords t 0xaa112233#32 0xbbbbbbbb#32) = true := by decide

theorem test_swr_big :
    ends (exec (.swr 2#5 1#16 4#5) (storeStateBig))
      (fun t => twoWords t 0x3344aaaa#32 0xbbbbbbbb#32) = true := by decide

theorem test_swr :
    ends (exec (.swr 2#5 2#16 4#5) (storeState))
      (fun t => twoWords t 0x3344aaaa#32 0xbbbbbbbb#32) = true := by decide

theorem test_usw_big :
    ends (exec (.pUsw 2#5 1#16 4#5) (storeStateBig))
      (fun t => twoWords t 0xaa112233#32 0x44bbbbbb#32) = true := by decide

theorem test_usw :
    ends (exec (.pUsw 2#5 2#16 4#5) (storeState))
      (fun t => twoWords t 0x3344aaaa#32 0xbbbb1122#32) = true := by decide

theorem test_ush :
    ends (exec (.pUsh 2#5 3#16 4#5) (storeState))
      (fun t => twoWords t 0x44aaaaaa#32 0xbbbbbb33#32) = true := by decide

theorem test_ush_big :
    ends (exec (.pUsh 2#5 1#16 4#5) (storeStateBig))
      (fun t => twoWords t 0xaa3344aa#32 0xbbbbbbbb#32) = true := by decide

theorem test_sw_misaligned :
    ends (exec (.sw 2#5 1#16 4#5) (storeState))
      (fun t => took t 5#4 0x00400000#32 && t.badVAddr == 0x10000001#32 && twoWords t 0xaaaaaaaa#32 0xbbbbbbbb#32) = true := by decide

theorem test_sw_bus_error :
    ends (exec (.sw 2#5 0#16 4#5) (smallMemory (regs [(2#5, 1#32), (4#5, 0x20000000#32)])))
      (fun t => took t 7#4 0x00400000#32 && t.badVAddr == 0#32) = true := by decide

theorem test_swc1 :
    ends (exec (.swc1 3#5 0#16 4#5) ({ storeState with fpr := writeSlot storeState.fpr 3#5 0x3f800000#32 }))
      (fun t => twoWords t 0x3f800000#32 0xbbbbbbbb#32) = true := by decide

theorem test_lwc1 :
    ends (exec (.lwc1 3#5 4#16 4#5) (loadState))
      (fun t => t.f 3#5 == 0x55667788#32) = true := by decide

theorem test_l_s :
    ends (exec (.pLoadS 2#5 (.offset 4#16 4#5)) (loadState))
      (fun t => t.f 2#5 == 0x55667788#32) = true := by decide

theorem test_l_d :
    ends (exec (.pLoadD 2#5 0#16 4#5) (loadState))
      (fun t => t.f 2#5 == 0x11223384#32 && t.f 3#5 == 0x55667788#32) = true := by decide

theorem test_l_d_big :
    ends (exec (.pLoadD 2#5 0#16 4#5) (loadStateBig))
      (fun t => t.f 3#5 == 0x11223384#32 && t.f 2#5 == 0x55667788#32) = true := by decide

theorem test_s_d :
    ends (exec (.pStoreD 2#5 0#16 4#5) ({ storeState with fpr := writeSlot (writeSlot storeState.fpr 2#5 0x54442d18#32) 3#5 0x400921fb#32 }))
      (fun t => twoWords t 0x54442d18#32 0x400921fb#32) = true := by decide

theorem test_s_s :
    ends (exec (.pStoreS 2#5 (.absolute 0x10000004#32)) ({ storeState with fpr := writeSlot (writeSlot storeState.fpr 2#5 0x54442d18#32) 3#5 0x400921fb#32 }))
      (fun t => twoWords t 0xaaaaaaaa#32 0x54442d18#32) = true := by decide

theorem test_mfc1_d :
    ends (exec (.pMfc1D 2#5 4#5) (fregs [(4#5, 0x54442d18#32), (5#5, 0x400921fb#32)]))
      (fun t => t.x 2#5 == 0x54442d18#32 && t.x 3#5 == 0x400921fb#32) = true := by decide

theorem test_mfc1 :
    ends (exec (.mfc1 6#5 5#5) (fregs [(5#5, 0xc0490fdb#32)]))
      (fun t => t.x 6#5 == 0xc0490fdb#32) = true := by decide

theorem test_mtc1 :
    ends (exec (.mtc1 3#5 5#5) (regs [(3#5, 0xc0490fdb#32)]))
      (fun t => t.f 5#5 == 0xc0490fdb#32) = true := by decide

theorem test_mtc0 :
    ends (exec (.mtc0 3#5 12#5) (kernel [(3#5, 0x0000040d#32)]))
      (fun t => t.status == 0x0000040d#32) = true := by decide

theorem test_mfc0 :
    ends (exec (.mfc0 2#5 14#5) ({ kernel [] with epc := 0x00400010#32 }))
      (fun t => t.x 2#5 == 0x00400010#32) = true := by decide

theorem test_lwc0 :
    ends (exec (.lwc0 12#5 0#16 4#5) (withWords [(0x10000000#32, 0x0000040d#32)] (kernel [(4#5, 0x10000000#32)])))
      (fun t => t.status == 0x0000040d#32) = true := by decide

theorem test_swc0 :
    ends (exec (.swc0 8#5 0#16 4#5) ({ kernel [(4#5, 0x10000000#32)] with badVAddr := 0x00001234#32 }))
      (fun t => t.word 0x10000000#32 == 0x00001234#32) = true := by decide

theorem test_cp0_refusals :
    refuses (exec (.mtc0 3#5 14#5) (kernel [])) .cp0RegisterReadOnly = true ∧
    refuses (exec (.mfc0 3#5 15#5) (kernel [])) .cp0RegisterNotDescribed = true ∧
    refuses (exec (.mtc0 3#5 12#5) (kernel [(3#5, 0x00400000#32)])) .statusBitNotDescribed = true := by decide

theorem test_refused_coprocessors :
    refuses (exec (.bc0t 1#16) (regs [])) .conditionFlagUndriven = true ∧
    refuses (exec (.bc0f 1#16) (regs [])) .conditionFlagUndriven = true ∧
    refuses (exec (.bc2t 1#16) (regs [])) .coprocessorAbsent = true ∧
    refuses (exec (.lwc3 1#5 0#16 4#5) (regs [])) .coprocessorAbsent = true := by decide

/-- The address of `lwcz` and `swcz` is checked first (D16, R289, R315; notes/assumptions 13). -/
theorem test_coprocessor_addresses :
    ends (exec (.lwc2 1#5 2#16 4#5) (regs [(4#5, 0x10000000#32)]))
      (fun t => took t 4#4 0x00400000#32 && t.badVAddr == 0x10000002#32) = true ∧
    ends (exec (.swc3 1#5 1#16 4#5) (regs [(4#5, 0x10000000#32)]))
      (fun t => took t 5#4 0x00400000#32 && t.badVAddr == 0x10000001#32) = true ∧
    ends (exec (.lwc3 1#5 0#16 4#5) (smallMemory (regs [(4#5, 0x20000000#32)])))
      (fun t => took t 7#4 0x00400000#32) = true ∧
    refuses (exec (.swc2 1#5 0#16 4#5) (smallMemory (regs [(4#5, 0x20000000#32)]))) .coprocessorAbsent = true := by
  decide

theorem test_rfe :
    ends (exec (.rfe) ({ kernel [] with status := 0x00000414#32 }))
      (fun t => t.status == 0x00000415#32 && t.pc == 0x00400004#32) = true := by decide

/-- The mapping of notes/assumptions 12, which R437 permits. -/
theorem test_rfe_in_user_mode :
    ends (exec (.rfe) (regs []))
      (fun t => took t 10#4 0x00400000#32) = true := by decide

theorem test_syscall :
    ends (exec (.syscall 0#20) ({ regs [] with status := 0x0000040f#32 }))
      (fun t => took t 8#4 0x00400000#32 && t.status == 0x0000043c#32) = true := by decide

theorem test_break :
    ends (exec (.brk 0#20) ({ regs [] with status := 0x0000003f#32 }))
      (fun t => took t 9#4 0x00400000#32 && t.status == 0x0000003c#32) = true := by decide

theorem test_add_s :
    ends (exec (.addS 0#5 2#5 4#5) (fregs [(2#5, 0x3fc00000#32), (4#5, 0x40100000#32)]))
      (fun t => t.f 0#5 == 0x40700000#32) = true := by decide

theorem test_sub_s :
    ends (exec (.subS 0#5 2#5 4#5) (fregs [(2#5, 0x3fc00000#32), (4#5, 0x40100000#32)]))
      (fun t => t.f 0#5 == 0xbf400000#32) = true := by decide

theorem test_mul_s :
    ends (exec (.mulS 0#5 2#5 4#5) (fregs [(2#5, 0x3fc00000#32), (4#5, 0x40100000#32)]))
      (fun t => t.f 0#5 == 0x40580000#32) = true := by decide

theorem test_div_s :
    ends (exec (.divS 0#5 2#5 4#5) (fregs [(2#5, 0x3f800000#32), (4#5, 0x40400000#32)]))
      (fun t => t.f 0#5 == 0x3eaaaaab#32) = true := by decide

theorem test_add_d :
    ends (exec (.addD 0#5 2#5 4#5) (fregs [(3#5, 0x3ff80000#32), (5#5, 0x40020000#32)]))
      (fun t => t.f 0#5 == 0x00000000#32 && t.f 1#5 == 0x400e0000#32) = true := by decide

theorem test_sub_d :
    ends (exec (.subD 0#5 2#5 4#5) (fregs [(3#5, 0x3ff80000#32), (5#5, 0x40020000#32)]))
      (fun t => t.f 0#5 == 0x00000000#32 && t.f 1#5 == 0xbfe80000#32) = true := by decide

theorem test_mul_d :
    ends (exec (.mulD 0#5 2#5 4#5) (fregs [(3#5, 0xc0000000#32), (4#5, 0x9999999a#32), (5#5, 0x3fb99999#32)]))
      (fun t => t.f 0#5 == 0x9999999a#32 && t.f 1#5 == 0xbfc99999#32) = true := by decide

theorem test_div_d :
    ends (exec (.divD 0#5 2#5 4#5) (fregs [(3#5, 0x3ff00000#32), (5#5, 0x40080000#32)]))
      (fun t => t.f 0#5 == 0x55555555#32 && t.f 1#5 == 0x3fd55555#32) = true := by decide

theorem test_abs_s :
    ends (exec (.absS 0#5 2#5) (fregs [(2#5, 0xc0200000#32)]))
      (fun t => t.f 0#5 == 0x40200000#32) = true := by decide

theorem test_neg_s :
    ends (exec (.negS 0#5 2#5) (fregs [(2#5, 0xc0200000#32)]))
      (fun t => t.f 0#5 == 0x40200000#32) = true := by decide

theorem test_abs_d :
    ends (exec (.absD 0#5 2#5) (fregs [(3#5, 0xc0040000#32)]))
      (fun t => t.f 0#5 == 0x00000000#32 && t.f 1#5 == 0x40040000#32) = true := by decide

theorem test_neg_d :
    ends (exec (.negD 0#5 2#5) (fregs [(3#5, 0x40040000#32)]))
      (fun t => t.f 0#5 == 0x00000000#32 && t.f 1#5 == 0xc0040000#32) = true := by decide

theorem test_mov_s :
    ends (exec (.movS 0#5 2#5) (fregs [(2#5, 0x7fc00001#32)]))
      (fun t => t.f 0#5 == 0x7fc00001#32) = true := by decide

theorem test_mov_d :
    ends (exec (.movD 0#5 2#5) (fregs [(2#5, 0x11111111#32), (3#5, 0x22222222#32)]))
      (fun t => t.f 0#5 == 0x11111111#32 && t.f 1#5 == 0x22222222#32) = true := by decide

theorem test_cvt_s_d :
    ends (exec (.cvtSD 0#5 2#5) (fregs [(2#5, 0x9999999a#32), (3#5, 0x3fb99999#32)]))
      (fun t => t.f 0#5 == 0x3dcccccd#32) = true := by decide

theorem test_cvt_d_s :
    ends (exec (.cvtDS 0#5 2#5) (fregs [(2#5, 0x3dcccccd#32)]))
      (fun t => t.f 0#5 == 0xa0000000#32 && t.f 1#5 == 0x3fb99999#32) = true := by decide

theorem test_cvt_s_w :
    ends (exec (.cvtSW 0#5 2#5) (fregs [(2#5, 0x01000001#32)]))
      (fun t => t.f 0#5 == 0x4b800000#32) = true := by decide

theorem test_cvt_d_w :
    ends (exec (.cvtDW 0#5 2#5) (fregs [(2#5, 0x80000000#32)]))
      (fun t => t.f 0#5 == 0x00000000#32 && t.f 1#5 == 0xc1e00000#32) = true := by decide

theorem test_cvt_w_s :
    ends (exec (.cvtWS 0#5 2#5) (fregs [(2#5, 0xc0e00000#32)]))
      (fun t => t.f 0#5 == 0xfffffff9#32) = true := by decide

theorem test_cvt_w_d :
    ends (exec (.cvtWD 0#5 2#5) (fregs [(2#5, 0xffc00000#32), (3#5, 0x41dfffff#32)]))
      (fun t => t.f 0#5 == 0x7fffffff#32) = true := by decide

theorem test_c_eq_s :
    ends (exec (.cEqS 2#5 4#5) (fregs [(2#5, 0x80000000#32), (4#5, 0x00000000#32)]))
      (fun t => t.cc1) = true := by decide

theorem test_c_eq_s_unordered :
    ends (exec (.cEqS 2#5 4#5) (fregs [(2#5, 0x7fc00000#32), (4#5, 0x7fc00000#32)]))
      (fun t => !t.cc1 && t.pc == 0x00400004#32) = true := by decide

theorem test_c_lt_s :
    ends (exec (.cLtS 2#5 4#5) (fregs [(2#5, 0x3f800000#32), (4#5, 0x40000000#32)]))
      (fun t => t.cc1) = true := by decide

theorem test_c_le_s :
    ends (exec (.cLeS 2#5 4#5) (fregs [(2#5, 0x3f800000#32), (4#5, 0x3f800000#32)]))
      (fun t => t.cc1) = true := by decide

theorem test_c_le_d :
    ends (exec (.cLeD 2#5 4#5) (fregs [(3#5, 0x3ff00000#32), (5#5, 0x40000000#32)]))
      (fun t => t.cc1) = true := by decide

theorem test_c_lt_d :
    ends (exec (.cLtD 2#5 4#5) (fregs [(3#5, 0x40000000#32), (5#5, 0x3ff00000#32)]))
      (fun t => !t.cc1 && t.pc == 0x00400004#32) = true := by decide

theorem test_c_eq_d :
    ends (exec (.cEqD 2#5 4#5) (fregs [(3#5, 0x7ff80000#32), (5#5, 0x3ff00000#32)]))
      (fun t => !t.cc1 && t.pc == 0x00400004#32) = true := by decide

theorem test_odd_register_refused :
    refuses (exec (.addS 1#5 2#5 4#5) (fregs [])) .oddFpRegister = true := by decide

/-! Whole steps. -/

/-- A state about to fetch a word. -/
def about (w : Word) (s : State) : State := s.withFetchWord 32 w.toNat

theorem test_step_runs_placed_word :
    ends (step (about 0x00641020#32 (regs [(3#5, 5#32), (4#5, 7#32)])))
      (fun t => t.x 2#5 == 12#32 && t.pc == 0x00400004#32) = true ∧
    ends (step (about 0x00641020#32 (bigEndian (regs [(3#5, 5#32), (4#5, 7#32)]))))
      (fun t => t.x 2#5 == 12#32) = true := by decide

theorem test_step_first_after_reset :
    ends (step (about 0x3c028000#32 State.reset)) (fun t => t.x 2#5 == 0x80000000#32) = true := by decide

theorem test_step_reserved_instruction :
    ends (step (about 0xfc000000#32 { regs [] with status := 0x00000403#32 }))
      (fun t => took t 10#4 0x00400000#32 && t.status == 0x0000040c#32) = true := by decide

theorem test_step_refused_words :
    refuses (step (about 0x00641060#32 (regs []))) .mustBeZeroBits = true ∧
    refuses (step (about 0x44c00000#32 (regs []))) .unlistedInstruction = true := by decide

theorem test_step_fetch_faults :
    ends (step { regs [] with pc := 0x00400102#32 })
      (fun t => took t 4#4 0x00400102#32 && t.badVAddr == 0x00400102#32) = true ∧
    ends (step { smallMemory (regs []) with pc := 0x20000000#32, badVAddr := 0x1234#32 })
      (fun t => took t 6#4 0x20000000#32 && t.badVAddr == 0x1234#32) = true := by decide

/-- Levels 2 and 4 requested, all five allowed: one exception, both bits visible in `Cause`. -/
theorem test_step_interrupt :
    ends (step { kernel [(2#5, 0#32)] with status := 0x00007c01#32, intSchedule := [0b10100#5] })
      (fun t => took t 0#4 0x00400000#32 && t.causeBits == 0x00005000#32 && t.status == 0x00007c04#32) = true := by
  decide

theorem test_step_interrupt_masked :
    ends (step { about 0x24420001#32 (regs []) with status := 0x00000801#32, intSchedule := [0b00001#5] })
      (fun t => t.x 2#5 == 1#32 && t.causeBits == 0x00000400#32 && t.status == 0x00000801#32) = true := by decide

/-- A branch with a delay slot, and the slot (R471 a, b, d): the target waits; an exception in the slot names the
branch. -/
theorem test_branch_delay_slot :
    ends (exec (.beq 0#5 0#5 3#16) (slots (regs [])))
      (fun t => t.pc == 0x00400004#32 && t.pendingTarget == some 0x00400010#32 &&
        ends (exec (.addu 2#5 0#5 0#5) t) (·.pc == 0x00400010#32) &&
        ends (exec (.brk 1#20) t) (fun u => u.epc == 0x00400000#32 && u.bd) &&
        refuses (exec (.jr 3#5) t) .branchInDelaySlot) = true := by decide

/-- A load in its delay, and the instruction after next (R472). -/
theorem test_load_delay_slot :
    ends (exec (.lw 2#5 4#16 4#5) (slots loadState))
      (fun t => t.loadPending == some (.gpr 2#5 false) &&
        ends (exec .pNop t) (fun u => u.loadPending == none && u.x 2#5 == 0x55667788#32)) = true := by decide

/-- A store is seen by a later fetch, or the fetch is refused (R82). -/
theorem test_fetch_of_stored_byte :
    refuses (step (({ regs [] with params := { Params.initial with fetchSeesStores := false } } : State).storeAll
      [(0x00400001#32, 0#8)])) .fetchOfStoredByte = true := by decide

/-- The bytes of an executed store are remembered where a fetch may miss it (R82), those of a trapping one are not. -/
theorem test_store_is_remembered :
    let s := { regs [(4#5, 0x10000000#32)] with params := { Params.initial with fetchSeesStores := false } }
    ends (exec (.sh 2#5 2#16 4#5) s) (·.storedBytes == [0x10000002, 0x10000003]) = true ∧
    ends (exec (.sh 2#5 1#16 4#5) s) (·.storedBytes == []) = true := by decide

/-- An exception of the instruction in a load's delay leaves the register in it (R472, notes/assumptions 15). -/
theorem test_load_delay_through_trap :
    ends (exec (.brk 1#20) { slots (regs []) with loadPending := some (.gpr 2#5 false) })
      (·.loadPending == some (.gpr 2#5 false)) = true := by decide

/-! For each statement with hypotheses, a state and operands that meet them; for a statement of several clauses, one for
each clause at a boundary of its range. -/

/-- A state of the machine with delay slots whose current instruction is in one. -/
def inSlot : State := { slots (regs []) with pendingTarget := some 0x00400100#32 }

theorem test_witness_DecodeOfEncode : Instr.isPseudo .rfe = false ∧ Instr.isPseudo (.brk 0xfffff#20) = false := by
  decide

theorem test_witness_EncodeOfDecode : decodeWord 0xffffffff#32 = .reserved ∧ decodeWord 0#32 = .instr (.sll 0 0 0) := by
  decide

/-- StepRunsDecodedInstruction, PlacedWordRuns. -/
theorem test_witness_step :
    let s := about 0x00641020#32 (regs [])
    s.sampleInterrupts.interruptTaken = false ∧ s.sampleInterrupts.fetchFault = none ∧
      s.sampleInterrupts.fetchStale = false ∧
      decodeWord (s.sampleInterrupts.word s.sampleInterrupts.pc) = .instr (.add 2#5 3#5 4#5) ∧
      s.sampleInterrupts = { s with intLines := s.intSchedule.headD 0#5, intSchedule := s.intSchedule.tail } ∧
      aligned4 (regs []).pc = true := by decide

theorem test_witness_access_at_the_edges :
    (regs []).CanAccess 0x00400000#32 (wordSpan 0x00400000#32) ∧
    (regs []).CanAccess 0xfffffffc#32 (wordSpan 0xfffffffc#32) ∧
    (smallMemory (regs [])).CanAccess 0x1ffffffc#32 (wordSpan 0x1ffffffc#32) ∧
    (kuseg (regs [])).CanAccess 0x7ffffffc#32 (wordSpan 0x7ffffffc#32) := by
  refine ⟨?_, ?_, ?_, ?_⟩ <;> exact (State.canAccess_iff _ _ _).mpr (by decide)

/-- InterruptTakenExactlyWhenEnabled: the lowest and the highest level; disabled; not allowed. -/
theorem test_witness_interrupts :
    let s := { kernel [] with status := 0x00000401#32, intSchedule := [0b00001#5] }
    let s' := { kernel [] with status := 0x00004001#32, intSchedule := [0b10000#5] }
    (s.inDelaySlot = false ∧ s.status.getLsbD 0 = true ∧ s.nextLines.getLsbD (0 : Fin 5) = true ∧
      s.status.getLsbD s.params.intBit[(0 : Fin 5)] = true) ∧
    (s'.inDelaySlot = false ∧ s'.status.getLsbD 0 = true ∧ s'.nextLines.getLsbD (4 : Fin 5) = true ∧
      s'.status.getLsbD s'.params.intBit[(4 : Fin 5)] = true) ∧
    (kernel []).status.getLsbD 0 = false ∧
    ∀ l : Fin 5, (State.nextLines { s with intSchedule := [0b11110#5] }).getLsbD l = false ∨
      s.status.getLsbD s.params.intBit[l] = false := by decide

/-- FetchFaultsTrap: the last byte of a word, the first address that user mode may not touch, a word whose last byte
has no memory. -/
theorem test_witness_fetch_faults :
    (let s := { regs [] with pc := 0x00400003#32 };
      s.sampleInterrupts.interruptTaken = false ∧ aligned4 s.pc = false) ∧
    (let s := { kuseg (regs []) with pc := 0x80000000#32 };
      s.sampleInterrupts.interruptTaken = false ∧ aligned4 s.pc = true ∧ s.params.enforceKuseg = true ∧
        s.userMode = true ∧ 0x80000000 ≤ s.pc.toNat) ∧
    (let s := { regs [] with
        pc := 0x1ffffffc#32, params := { Params.initial with memMap := [⟨0, 0x1fffffff⟩] } };
      s.sampleInterrupts.interruptTaken = false ∧ aligned4 s.pc = true ∧ s.params.enforceKuseg = false ∧
        ∃ p ∈ wordSpan s.pc, s.mapped p = false) :=
  ⟨by decide, by decide, by decide, by decide, by decide, 0x1fffffff#32, by decide, by decide⟩

/-- WordsWithoutInstruction: a word of each of its three kinds; WordsOutsideTheTable has no hypothesis, and its words are
those of test_decode_reserved, test_decode_must_be_zero and test_decode_unlisted. -/
theorem test_witness_words_without_instruction :
    let fetches := fun (s : State) (w : Word) => s.sampleInterrupts.interruptTaken = false ∧
      s.sampleInterrupts.fetchFault = none ∧ s.fetchStale = false ∧ s.word s.pc = w
    fetches (about 0xfc000000#32 (regs [])) 0xfc000000#32 ∧ fetches (about 0x44c00000#32 (regs [])) 0x44c00000#32 ∧
      fetches (about 0x00641060#32 (regs [])) 0x00641060#32 := by decide

/-- FetchOfStoredBytes: the last byte of the word fetched is one that was stored; and the other setting, with a word
stored at `pc`. -/
theorem test_witness_stored_bytes :
    let s := { regs [] with params := { Params.initial with fetchSeesStores := false }, storedBytes := [0x00400003] }
    s.sampleInterrupts.interruptTaken = false ∧ s.sampleInterrupts.fetchFault = none ∧
      s.params.fetchSeesStores = false ∧ (∃ a ∈ wordSpan s.pc, a.toNat ∈ s.storedBytes) ∧
      (regs []).params.fetchSeesStores = true ∧ (regs []).sampleInterrupts.interruptTaken = false ∧
      (regs []).sampleInterrupts.fetchFault = none ∧ decodeWord 0x24420001#32 = .instr (.addiu 2#5 2#5 1#16) ∧
      ends (step ((regs []).storeAll (wordBytes false (regs []).pc 0x24420001#32))) (·.x 2#5 == 1#32) = true :=
  ⟨by decide, by decide, by decide, ⟨0x00400003#32, by decide, by decide⟩, by decide, by decide, by decide, by decide,
    by decide⟩

/-- OnlyTheHostEndsARun, and the two settings of SYSCALL_MODE that SyscallAndBreakTrap and SyscallHostService are
about. -/
theorem test_witness_syscall_modes :
    (regs []).params.syscallMode = .trap ∧
    ({ Params.initial with syscallMode := .hostService } : Params).syscallMode = .hostService := by decide

/-- StepKeepsInvariant, EveryMeaningKeepsInvariant: the invariant holds of a state that is not the reset state, and a
step and a meaning go on from it. -/
theorem test_witness_invariant :
    State.Inv (about 0x00641020#32 (regs [(3#5, 5#32)])) ∧
    ends (step (about 0x00641020#32 (regs [(3#5, 5#32)]))) (fun _ => true) = true ∧
    ends (exec (.pMul 2#5 3#5 (.const 7#32)) (about 0x00641020#32 (regs [(3#5, 5#32)]))) (fun _ => true) = true :=
  ⟨⟨by decide, by decide, by decide, by decide, fun _ => by decide, fun _ => by decide, fun _ => by decide⟩,
    by decide, by decide⟩

/-- UserModeLeavesOnlyByTrapEntry: a step in user mode that stays there, and ones that trap, outside a delay slot and
in one. -/
theorem test_witness_user_mode :
    State.userMode (about 0x00641020#32 (regs [])) = true ∧
    ends (step (about 0x00641020#32 (regs []))) (·.userMode) = true ∧
    ends (step (about 0x0000000c#32 (regs []))) (fun t => !t.userMode && !t.bd) = true ∧
    ends (step (about 0x0000000c#32 inSlot)) (fun t => !t.userMode && t.bd && t.epc == 0x003ffffc#32) = true := by
  decide

/-- RegisterZeroIsHardwired: an instruction with destination 0 that completes, and one that traps. -/
theorem test_witness_register_zero :
    ends (exec (.mfc0 0#5 14#5) (kernel [])) (fun t => t.x 0#5 == 0#32 && t.pc == 0x00400004#32) = true ∧
    ends (exec (.lw 0#5 1#16 4#5) (regs [])) (fun t => took t 4#4 0x00400000#32) = true := by decide

/-- RegisterZeroIsHardwired, LoadDelayReads: a register out of any delay; each kind of load in its delay. -/
theorem test_witness_load_delay :
    State.gprDelayed (regs []) 31#5 = false ∧
    (let s := { slots (regs []) with loadPending := some (.gpr 31#5 true) };
      s.params.loadDelaySlot = true ∧ s.loadPending = some (.gpr 31#5 true) ∧ s.gprDelayed 31#5 = true) ∧
    (let s := { slots (regs []) with loadPending := some (.fpr 0#5) };
      s.params.loadDelaySlot = true ∧ s.loadPending = some (.fpr 0#5) ∧ s.fprDelayed 0#5 = true) ∧
    (regs []).params.loadDelaySlot = false := by decide

/-- CheckedArithmetic: the last sums and differences that fit, and the first that do not. -/
theorem test_witness_overflow :
    let fits := fun (t : Int) => decide (-2 ^ 31 ≤ t ∧ t ≤ 2 ^ 31 - 1)
    fits ((0x7ffffffe#32).toInt + (1#32).toInt) = true ∧ fits ((0x7fffffff#32).toInt + (1#32).toInt) = false ∧
    fits ((0x80000001#32).toInt - (1#32).toInt) = true ∧ fits ((0x80000000#32).toInt - (1#32).toInt) = false ∧
    fits ((0x7fff8000#32).toInt + (0x7fff#16).toInt) = true ∧
    fits ((0x7fff8001#32).toInt + (0x7fff#16).toInt) = false ∧
    ends (exec (.add 2#5 3#5 4#5) (regs [(3#5, 0x7ffffffe#32), (4#5, 1#32)])) (·.x 2#5 == 0x7fffffff#32) = true := by
  decide

/-- DivideResults: the smallest divisor, a negative dividend and a negative divisor under both settings. -/
theorem test_witness_divide :
    let a := (0#32).toInt
    let b := (1#32).toInt
    let n := (0x80000000#32).toInt
    let m := (0xffffffff#32).toInt
    (0 ≤ a ∧ 0 < b) ∧ (b ≠ 0 ∧ n < 0 ∧ ¬ (n = -2 ^ 31 ∧ b = -1)) ∧ (m ≠ 0 ∧ m < 0 ∧ ¬ (a = -2 ^ 31 ∧ m = -1)) ∧
    (regs []).params.divNumerics = .trunc ∧
    ({ Params.initial with divNumerics := .unspecified } : Params).divNumerics = .unspecified ∧ 1#32 ≠ 0#32 := by
  decide

/-- ConditionalBranches, JumpsAndLinks, BranchInDelaySlotRefused. -/
theorem test_witness_delay_slots :
    State.inDelaySlot (regs []) = false ∧ State.inDelaySlot (slots (regs [])) = false ∧
    State.inDelaySlot inSlot = true ∧
    refuses (exec (.jalr 31#5 3#5) inSlot) .branchInDelaySlot = true ∧
    ends (exec (.pNop) inSlot) (·.pc == 0x00400100#32) = true := by decide

/-- The pseudoinstruction statements: a settled state of each machine, and operands that are not `$at`. -/
theorem test_witness_settled :
    (regs []).Settled ∧ (slots (regs [])).Settled ∧
    notAt 0#5 = true ∧ notAt 31#5 = true ∧ Src2.notAt (.reg 2#5) = true ∧ Src2.notAt (.const 0#32) = true ∧
    Address.notAt (.offset 0x8000#16 2#5) = true ∧ Address.notAt (.absolute 0xffffffff#32) = true ∧
    Address.notAt (.indexed 0x8000#32 31#5) = true := by
  refine ⟨?_, ?_, ?_⟩
  · exact ⟨fun _ => by decide, fun _ => by decide⟩
  · exact ⟨fun _ => by decide, fun _ => by decide⟩
  · decide

/-- AlignedLoads, AlignedStores, UnalignedLoadsMerge, UnalignedStoresMirrorLoads, FpRegisterMoves: the highest
addresses, every byte of whose access has memory. -/
theorem test_witness_highest_addresses :
    let s := regs [(4#5, 0xfffffffc#32)]
    s.CanAccess (s.ea 3#16 4#5) [s.ea 3#16 4#5] ∧
    ((s.ea 2#16 4#5).toNat % 2 = 0 ∧ s.CanAccess (s.ea 2#16 4#5) [s.ea 2#16 4#5, s.ea 2#16 4#5 + 1#32]) ∧
    ((s.ea 0#16 4#5).toNat % 4 = 0 ∧ s.CanAccess (s.ea 0#16 4#5) (wordSpan (s.ea 0#16 4#5))) ∧
    s.CanAccess (s.ea 3#16 4#5) (wordSpan (s.ea 3#16 4#5 - BitVec.ofNat 32 ((s.ea 3#16 4#5).toNat % 4))) := by
  refine ⟨?_, ⟨by decide, ?_⟩, ⟨by decide, ?_⟩, ?_⟩ <;> exact (State.canAccess_iff _ _ _).mpr (by decide)

/-- FaultingLoadsTrap, FaultingStoresTrap: an odd halfword, a word two bytes off; the first address that user mode may
not touch; the first byte without memory, for each size of access. -/
theorem test_witness_faults :
    (let s := regs [(4#5, 0x10000000#32)];
      (s.ea 1#16 4#5).toNat % 2 ≠ 0 ∧ (s.ea 2#16 4#5).toNat % 4 ≠ 0) ∧
    (let s := kuseg (regs [(4#5, 0x80000000#32)]);
      s.params.enforceKuseg = true ∧ s.userMode = true ∧ 0x80000000 ≤ (s.ea 0#16 4#5).toNat) ∧
    (let s := smallMemory (regs [(4#5, 0x20000000#32)]);
      s.params.enforceKuseg = false ∧ s.mapped (s.ea 0#16 4#5) = false ∧ s.mapped (s.ea 0xffff#16 4#5) = true ∧
        (s.ea 0#16 4#5).toNat % 4 = 0 ∧ (∃ p ∈ [s.ea 0#16 4#5, s.ea 0#16 4#5 + 1#32], s.mapped p = false) ∧
        (∃ p ∈ wordSpan (s.ea 0#16 4#5), s.mapped p = false) ∧
        ∃ p ∈ wordSpan (alignedWord (s.ea 3#16 4#5)), s.mapped p = false) :=
  ⟨by decide, by decide, by decide, by decide, by decide, by decide, ⟨0x20000000#32, by decide, by decide⟩,
    ⟨0x20000000#32, by decide, by decide⟩, ⟨0x20000000#32, by decide, by decide⟩⟩

/-- DoubleWordsFaultByWord: the second word is the first without memory, and then the first word is; a first word two
bytes off; the first word that user mode may not touch, as the second and as the first. -/
theorem test_witness_double_words :
    (let s := smallMemory (regs [(4#5, 0x1ffffffc#32)]);
      s.wordFault 4#4 (s.ea 0#16 4#5) = none ∧
        s.wordFault 4#4 (s.ea 0#16 4#5 + 4#32) = some (7#4, s.badVAddr) ∧
        s.wordFault 5#4 (s.ea 4#16 4#5) = some (7#4, s.badVAddr)) ∧
    (let s := regs [(4#5, 0x10000002#32)];
      s.wordFault 5#4 (s.ea 0#16 4#5) = some (5#4, 0x10000002#32)) ∧
    (let s := kuseg (regs [(4#5, 0x7ffffffc#32)]);
      s.wordFault 5#4 (s.ea 0#16 4#5) = none ∧
        s.wordFault 5#4 (s.ea 0#16 4#5 + 4#32) = some (5#4, 0x80000000#32)) :=
  ⟨⟨(State.wordFault_eq _ .addrl _ rfl).trans (by decide), (State.wordFault_eq _ .addrl _ rfl).trans (by decide),
    (State.wordFault_eq _ .addrs _ rfl).trans (by decide)⟩, (State.wordFault_eq _ .addrs _ rfl).trans (by decide),
    (State.wordFault_eq _ .addrs _ rfl).trans (by decide), (State.wordFault_eq _ .addrs _ rfl).trans (by decide)⟩

/-- The same, the operands well formed: the exception of the second word names it, that of the first names the first. -/
theorem test_double_words :
    wellFormed (.pLd 2#5 0#16 4#5) = true ∧ wellFormed (.pStoreD 2#5 0#16 4#5) = true ∧
    ends (exec (.pLd 2#5 0#16 4#5) (smallMemory (regs [(4#5, 0x1ffffffc#32)])))
      (fun t => took t 7#4 0x00400004#32) = true ∧
    ends (exec (.pSd 2#5 4#16 4#5) (smallMemory (regs [(4#5, 0x1ffffffc#32)])))
      (fun t => took t 7#4 0x00400000#32) = true ∧
    ends (exec (.pStoreD 2#5 0#16 4#5) (kuseg (regs [(4#5, 0x7ffffffc#32)])))
      (fun t => took t 5#4 0x00400004#32 && t.badVAddr == 0x80000000#32) = true := by decide

/-- LoadPseudoinstructions, FpLoadPseudoinstructions, StorePseudoinstructions: the largest offsets of each form. -/
theorem test_witness_memory_pseudoinstructions :
    let s := regs [(4#5, 0x10000001#32)]
    (wellFormed (.pLd 30#5 0x7ffb#16 4#5) = true ∧ (s.ea 0x7ffb#16 4#5).toNat % 4 = 0 ∧
      wellFormed (.pSd 30#5 0x7ffb#16 4#5) = true ∧ wellFormed (.pLoadD 30#5 0x7ffb#16 4#5) = true ∧
      wellFormed (.pStoreD 30#5 0x7ffb#16 4#5) = true) ∧
    (wellFormed (.pUlh 2#5 0x7ffe#16 4#5) = true ∧ wellFormed (.pUlhu 2#5 0x7ffe#16 4#5) = true ∧
      wellFormed (.pUsh 2#5 0x7ffe#16 4#5) = true) ∧
    (wellFormed (.pUlw 2#5 0x7ffc#16 4#5) = true ∧ wellFormed (.pUsw 2#5 0x7ffc#16 4#5) = true) ∧
    wellFormed (.pMfc1D 30#5 30#5) = true ∧
    (wellFormed (.pLoadS 30#5 (.absolute 0xfffffffc#32)) = true ∧
      wellFormed (.pStoreS 30#5 (.absolute 0xfffffffc#32)) = true ∧
      (s.addressValue (.absolute 0xfffffffc#32)).toNat % 4 = 0) ∧
    s.CanAccess (s.ea 0x7ffb#16 4#5) (wordSpan (s.ea 0x7ffb#16 4#5)) ∧
    s.CanAccess (s.ea 0x7ffb#16 4#5 + 4#32) (wordSpan (s.ea 0x7ffb#16 4#5 + 4#32)) ∧
    s.CanAccess (s.ea 0x7ffe#16 4#5) [s.ea 0x7ffe#16 4#5] ∧
    s.CanAccess (s.ea 0x7ffe#16 4#5 + 1#32) [s.ea 0x7ffe#16 4#5 + 1#32] ∧
    s.CanAccess (s.ea 0x7ffc#16 4#5) (wordSpan (alignedWord (s.ea 0x7ffc#16 4#5))) ∧
    s.CanAccess (s.ea 0x7ffc#16 4#5 + 3#32) (wordSpan (alignedWord (s.ea 0x7ffc#16 4#5 + 3#32))) ∧
    s.CanAccess (s.addressValue (.absolute 0xfffffffc#32))
      (wordSpan (s.addressValue (.absolute 0xfffffffc#32))) := by
  refine ⟨by decide, by decide, by decide, by decide, by decide, ?_, ?_, ?_, ?_, ?_, ?_, ?_⟩ <;>
    exact (State.canAccess_iff _ _ _).mpr (by decide)

/-- UndescribedCoprocessorsRefused, Cop0TrapsInUserMode: an aligned word with memory, in user mode; the accesses of the
coprocessors are refused there or take the exception. -/
theorem test_witness_coprocessor_words :
    let s := regs [(4#5, 0xfffffffc#32)]
    (s.ea 0#16 4#5).toNat % 4 = 0 ∧ s.CanAccess (s.ea 0#16 4#5) (wordSpan (s.ea 0#16 4#5)) ∧ s.userMode = true ∧
      refuses (exec (.lwc2 31#5 0#16 4#5) s) .coprocessorAbsent = true ∧
      ends (exec (.swc0 31#5 0#16 4#5) s) (fun t => took t 10#4 0x00400000#32) = true :=
  ⟨by decide, (State.canAccess_iff _ _ _).mpr (by decide), by decide, by decide, by decide⟩

/-- Cop0ReadsInKernelMode, Cop0WritesInKernelMode, RfePopsTheStack, Cop0TrapsInUserMode: both modes; a value of every
described bit and one with the lowest bit that is not; the register numbers of each clause. -/
theorem test_witness_coprocessor_0 :
    (kernel []).userMode = false ∧ (kernel []).params.wf = true ∧ (regs []).userMode = true ∧
    (let s := kernel [(3#5, 0x00007c3f#32), (2#5, 0x00000040#32)];
      (∀ i : Fin 32, (s.x 3#5).getLsbD i = true → (i : Nat) < 6 ∨ ∃ l : Fin 5, s.params.intBit[l] = (i : Nat)) ∧
      ((s.x 2#5).getLsbD 6 = true ∧ ¬ ((6 : Nat) < 6 ∨ ∃ l : Fin 5, s.params.intBit[l] = 6))) ∧
    (8#5 ∈ [8#5, 13#5, 14#5] ∧ 14#5 ∈ [8#5, 13#5, 14#5]) ∧ 0#5 ∉ [8#5, 12#5, 13#5, 14#5] ∧
    31#5 ∉ [8#5, 12#5, 13#5, 14#5] := by decide

/-- Cop0WritesInKernelMode through memory: a word whose bits are all described, and one whose are not;
FaultingLoadsTrap, FaultingStoresTrap: kernel mode, a misaligned word. -/
theorem test_witness_lwc0 :
    let s := withWords [(0x10000000#32, 0x00007c3f#32), (0x10000004#32, 0x80000000#32)]
      (kernel [(4#5, 0x10000000#32)])
    (s.ea 0#16 4#5).toNat % 4 = 0 ∧ s.word (s.ea 0#16 4#5) = 0x00007c3f#32 ∧
      (s.word (s.ea 4#16 4#5)).getLsbD 31 = true ∧ s.userMode = false ∧ (s.ea 3#16 4#5).toNat % 4 = 3 ∧
      refuses (exec (.lwc0 12#5 4#16 4#5) s) .statusBitNotDescribed = true := by decide

/-- FpResultsWritten, FpComparesSetTheFlag, OddFpRegistersRefused. -/
theorem test_witness_even_registers : evenReg 0#5 = true ∧ evenReg 30#5 = true ∧ evenReg 1#5 = false ∧
    evenReg 31#5 = false := by decide

/-- Ieee754Comparisons: the smallest not-a-number, and the largest number, of both formats. -/
theorem test_witness_not_a_number :
    let nan := fun v : Word => v.extractLsb' 23 8 = 0xff#8 ∧ v.extractLsb' 0 23 ≠ 0#23
    let nanD := fun v : DWord => v.extractLsb' 52 11 = 0x7ff#11 ∧ v.extractLsb' 0 52 ≠ 0#52
    (nan 0x7f800001#32 ∧ ¬ nan 0x7f800000#32) ∧
      nanD 0x7ff0000000000001#64 ∧ ¬ nanD 0x7ff0000000000000#64 := by decide

/-- ExpansionsAndTheirRestrictions: a bare instruction that is a transfer, one that is not, and a pseudoinstruction
outside its restrictions. -/
theorem test_witness_pseudo_restrictions :
    (Instr.isPseudo (.jr 31#5) = false ∧ isTransfer (.jr 31#5) = true) ∧
    (Instr.isPseudo (.add 2#5 3#5 4#5) = false ∧ isTransfer (.add 2#5 3#5 4#5) = false) ∧
    Instr.isPseudo (.pLd 31#5 0#16 4#5) = true ∧ wellFormed (.pLd 31#5 0#16 4#5) = false := by decide

/-- MovePseudoinstructions, MultiplyPseudoinstructions, DividePseudoinstructions: the operand on each side of each
case. -/
theorem test_witness_pseudo_operands :
    let s := regs [(2#5, 0x80000000#32), (3#5, 0x80000001#32), (4#5, 0xffffffff#32), (5#5, 0x00010000#32)]
    s.x 2#5 = 0x80000000#32 ∧ s.x 3#5 ≠ 0x80000000#32 ∧
    ((s.x 5#5).toInt * (s.srcValue (.const 0x7fff#32)).toInt ≤ 2 ^ 31 - 1 ∧
      2 ^ 31 - 1 < (s.x 5#5).toInt * (s.srcValue (.const 0x8000#32)).toInt) ∧
    ((s.x 5#5).toNat * (s.srcValue (.const 0xffff#32)).toNat < 2 ^ 32 ∧
      ¬ (s.x 5#5).toNat * (s.srcValue (.reg 5#5)).toNat < 2 ^ 32) ∧
    s.srcValue (.reg 0#5) = 0#32 ∧ (s.x 2#5 = 0x80000000#32 ∧ s.srcValue (.reg 4#5) = 0xffffffff#32) ∧
    ¬ (s.x 3#5 = 0x80000000#32 ∧ s.srcValue (.reg 4#5) = 0xffffffff#32) ∧ s.params.divNumerics = .trunc := by decide

end Sys2Proof.Tests
end

section
/-! PROOFS. What the reference assembler emits: bare words only, and a bare instruction as itself; and which uses of a
pseudoinstruction are refused (R3, R121, R471 f). -/

namespace Sys2Proof

/-! Bareness is computed from the mnemonics alone, so that it evaluates on an expansion whose operands are variables. -/

/-- Whether every word is a bare instruction (R3). -/
def bareWords (ws : List Instr) : Bool := ws.all fun j => !j.isPseudo

/-- Whether a piece of an expansion is a bare instruction, its internal branch given the offset `off`. -/
def Item.bareAt (off : Half) : Item → Bool
  | .word i => !i.isPseudo
  | .branch i => !i.isPseudo
  | .skip mk _ => !(mk off).isPseudo

/-- Whether every piece of an expansion is bare at the offset `off`. -/
def bareItems (off : Half) (items : List Item) : Bool := items.all (Item.bareAt off)

theorem bareWords_iff (ws : List Instr) : bareWords ws = true ↔ ∀ j ∈ ws, j.isPseudo = false := by
  simp [bareWords]

@[simp] theorem bareWords_cons (i : Instr) (ws : List Instr) :
    bareWords (i :: ws) = (!i.isPseudo && bareWords ws) := rfl

@[simp] theorem bareWords_append (us ws : List Instr) : bareWords (us ++ ws) = (bareWords us && bareWords ws) :=
  List.all_append

@[simp] theorem bareItems_cons (off : Half) (it : Item) (items : List Item) :
    bareItems off (it :: items) = (it.bareAt off && bareItems off items) := rfl

@[simp] theorem bareItems_append (off : Half) (us vs : List Item) :
    bareItems off (us ++ vs) = (bareItems off us && bareItems off vs) :=
  List.all_append

@[simp] theorem bareItems_map_word (off : Half) (ws : List Instr) :
    bareItems off (ws.map .word) = bareWords ws :=
  List.all_map

@[simp] theorem bareWords_slotNop (delay : Bool) : bareWords (slotNop delay) = true := by
  cases delay <;> rfl

/-- Laying out bare pieces gives bare words: an offset changes no mnemonic, and only `nop`s are put in (R471 f). -/
theorem bareWords_layout (delay : Bool) (items : List Item) (h : ∀ off, bareItems off items = true) :
    bareWords (layout delay items) = true := by
  induction items with
  | nil => rfl
  | cons it rest ih =>
    simp only [bareItems_cons, Bool.and_eq_true, forall_and] at h
    obtain ⟨hit, hrest⟩ := h
    cases it with
    | word i =>
      have hi : i.isPseudo = false := by simpa [Item.bareAt] using hit 0#16
      simp [layout, hi, ih hrest]
    | branch i =>
      have hi : i.isPseudo = false := by simpa [Item.bareAt] using hit 0#16
      simp [layout, hi, ih hrest]
    | skip mk n =>
      have hmk : ∀ off, (mk off).isPseudo = false := by simpa [Item.bareAt] using hit
      simp [layout, hmk, ih hrest]

/-! The parts that expansions share. -/

theorem bareWords_liWords (rd : RegIdx) (k : Word) : bareWords (liWords rd k) = true := by
  unfold liWords
  split_ifs <;> rfl

theorem bareWords_laWords (rd : RegIdx) (addr : Address) : bareWords (laWords rd addr) = true := by
  cases addr <;> rfl

theorem bareWords_memWords (op : Half → RegIdx → Instr) (addr : Address) (h : ∀ k r, (op k r).isPseudo = false) :
    bareWords (memWords op addr) = true := by
  cases addr <;> simp only [memWords, bareWords_cons, h] <;> rfl

/-- Loading a constant operand puts only the bare words of `li $at, k` before the rest (R118). -/
theorem bareItems_withSrc (off : Half) (src : Src2) (f : RegIdx → List Item)
    (h : ∀ rt, bareItems off (f rt) = true) : bareItems off (withSrc src f) = true := by
  cases src with
  | reg r => exact h r
  | const k => simp [withSrc, bareWords_liWords, h]

/-! The expansions. -/

/-- Every piece of every expansion is bare (R3, R121). The cases named are those whose pieces depend on an operand's
form or size; in the others the mnemonics are fixed and the check evaluates. -/
theorem bareItems_expansion (off : Half) (big : Bool) (i : Instr) : bareItems off (expansion big i) = true := by
  cases i with
  | pLi rd k => exact (bareItems_map_word off _).trans (bareWords_liWords rd k)
  | pLa rd addr => exact (bareItems_map_word off _).trans (bareWords_laWords rd addr)
  | pLoadS fd addr =>
    exact (bareItems_map_word off _).trans (bareWords_memWords (.lwc1 fd) addr fun _ _ => rfl)
  | pStoreS fs addr =>
    exact (bareItems_map_word off _).trans (bareWords_memWords (.swc1 fs) addr fun _ _ => rfl)
  | pDiv rd rs src | pDivu rd rs src | pMul rd rs src | pMulo rd rs src | pMulou rd rs src
  | pRem rd rs src | pRemu rd rs src | pSeq rd rs src | pSge rd rs src | pSgeu rd rs src
  | pSgt rd rs src | pSgtu rd rs src | pSle rd rs src | pSleu rd rs src | pSne rd rs src
  | pBge rs src | pBgeu rs src | pBgt rs src | pBgtu rs src
  | pBle rs src | pBleu rs src | pBlt rs src | pBltu rs src =>
    exact bareItems_withSrc off src _ fun _ => rfl
  | _ => rfl

theorem expand_bare (big delay : Bool) (i : Instr) : ∀ j ∈ expand big delay i, j.isPseudo = false :=
  (bareWords_iff _).mp (bareWords_layout delay _ fun off => bareItems_expansion off big i)

/-- The expansion of a bare instruction is one piece, the instruction (R121): a look at each mnemonic, where the
hypothesis rules the pseudoinstructions out. -/
theorem expansion_of_bare (big : Bool) (i : Instr) (h : i.isPseudo = false) :
    expansion big i = if isTransfer i = true then [.branch i] else [.word i] := by
  cases i <;> cases h <;> rfl

/-- A bare instruction stands for itself, with a `nop` in the slot of a branch or jump (R121, R471 f). -/
theorem expand_of_bare (big delay : Bool) (i : Instr) (h : i.isPseudo = false) :
    expand big delay i = if delay = true ∧ isTransfer i = true then [i, .sll 0#5 0#5 0#5] else [i] := by
  rw [expand, expansion_of_bare big i h]
  cases isTransfer i <;> cases delay <;> rfl

end Sys2Proof

namespace Sys2Proof.Machine

/-- A pseudoinstruction's meaning is the run of its expansion (R121, R122): a look at each mnemonic, where the
hypothesis rules the bare instructions out. -/
theorem exec_of_isPseudo (i : Instr) (s : State) (h : i.isPseudo = true) : exec i s = (runPseudo i s).outcome := by
  cases i <;> cases h <;> rfl

/-- A use outside the restrictions is refused in every state (R121). -/
theorem exec_refused_of_not_wellFormed (i : Instr) (s : State) (hp : i.isPseudo = true) (hw : wellFormed i = false) :
    exec i s = .refused .pseudoOutsideRestrictions := by
  rw [exec_of_isPseudo i s hp, runPseudo_refused i s hw]
  rfl

/-- Settles O5: the pieces of every expansion are bare and stay so when laid out; and a pseudoinstruction's meaning is
`runPseudo`, which refuses what is not well formed. -/
theorem expansionsAndTheirRestrictions : Obligations.ExpansionsAndTheirRestrictions :=
  ⟨expand_bare, expand_of_bare, exec_refused_of_not_wellFormed⟩

end Sys2Proof.Machine
end

section
/-! PROOFS. The described bits of `Status` and `Cause` as the words the model computes with (R36, R38). -/

namespace Sys2Proof.Machine

theorem intBitMask_getLsbD (p : Params) (l : Fin 5) (i : Nat) :
    (intBitMask p l).getLsbD i = true ↔ i < 32 ∧ p.intBit[l] = i := by
  simp only [intBitMask, BitVec.getLsbD_shiftLeft, BitVec.getLsbD_one, Bool.and_eq_true, Bool.not_eq_true',
    decide_eq_true_eq, decide_eq_false_iff_not]
  omega

/-- A bit of the levels spread over a word is a level that is set, at its place (R36, R38). -/
theorem spreadLevels_getLsbD (p : Params) (levels : BitVec 5) (i : Nat) :
    (spreadLevels p levels).getLsbD i = true ↔
      i < 32 ∧ ∃ l : Fin 5, levels.getLsbD l = true ∧ p.intBit[l] = i := by
  have level : ∀ l : Fin 5, (if levels.getLsbD l then intBitMask p l else 0#32).getLsbD i = true ↔
      i < 32 ∧ levels.getLsbD l = true ∧ p.intBit[l] = i := by
    intro l
    cases levels.getLsbD l
    · simp
    · simpa using intBitMask_getLsbD p l i
  calc (spreadLevels p levels).getLsbD i = true
      ↔ ∃ l : Fin 5, (if levels.getLsbD l then intBitMask p l else 0#32).getLsbD i = true := by
        simp [spreadLevels, Fin.exists_fin_succ, or_assoc]
    _ ↔ i < 32 ∧ ∃ l : Fin 5, levels.getLsbD l = true ∧ p.intBit[l] = i := by
        simp only [level, exists_and_left]

@[simp] theorem spreadLevels_none (p : Params) : spreadLevels p 0#5 = 0#32 := by
  simp [spreadLevels]

theorem levels_all_getLsbD (l : Fin 5) : (0b11111#5).getLsbD l = true := by
  revert l; decide

theorem stackMask_getLsbD (i : Nat) : (0x3f#32).getLsbD i = decide (i < 6) := by
  rw [show 0x3f#32 = (BitVec.allOnes 6).setWidth 32 by decide, BitVec.getLsbD_setWidth, BitVec.getLsbD_allOnes]
  by_cases h : i < 6
  · simp [h, show i < 32 by omega]
  · simp [h]

/-- The bits of `statusDescribed` are those the spec describes (R36). -/
theorem statusDescribed_getLsbD (p : Params) (i : Nat) (hi : i < 32) :
    (statusDescribed p).getLsbD i = true ↔ StatusBit p i := by
  rw [statusDescribed, BitVec.getLsbD_or, Bool.or_eq_true, stackMask_getLsbD, spreadLevels_getLsbD]
  simp [StatusBit, hi, levels_all_getLsbD]

/-- A word with no 1 in an undescribed bit of `Status` (R36). -/
theorem undescribed_eq_zero_iff (p : Params) (v : Word) :
    v &&& ~~~statusDescribed p = 0#32 ↔ ∀ i : Nat, i < 32 → v.getLsbD i = true → StatusBit p i := by
  have bit : ∀ i, i < 32 →
      ((v &&& ~~~statusDescribed p).getLsbD i = false ↔ (v.getLsbD i = true → StatusBit p i)) := by
    intro i hi
    rw [← statusDescribed_getLsbD p i hi]
    simp [hi]
  constructor
  · intro h i hi
    exact (bit i hi).mp (by simp [h])
  · intro h
    refine BitVec.eq_of_getLsbD_eq fun i hi => ?_
    simpa using (bit i hi).mpr (h i hi)

/-- Above the stack trap entry leaves `Status` alone (R425 step 4). -/
theorem pushStatus_getLsbD (v : Word) (i : Nat) (h6 : 6 ≤ i) : (pushStatus v).getLsbD i = v.getLsbD i := by
  have h2 : ¬ i < 2 := by omega
  have h4 : ¬ i - 2 < 4 := by omega
  have e : 6 + (i - 2 - 4) = i := by omega
  simp only [pushStatus, BitVec.getLsbD_append, BitVec.getLsbD_extractLsb', h2, h4, e]
  by_cases i < 32
  · simp [show i - 2 - 4 < 26 by omega]
  · simp [BitVec.getLsbD_of_ge v i (by omega)]

/-- Above the two entries it overwrites a return leaves `Status` alone (R400). -/
theorem popStatus_getLsbD (v : Word) (i : Nat) (h4 : 4 ≤ i) : (popStatus v).getLsbD i = v.getLsbD i := by
  have h4' : ¬ i < 4 := by omega
  have e : 4 + (i - 4) = i := by omega
  simp only [popStatus, BitVec.getLsbD_append, BitVec.getLsbD_extractLsb', h4', e]
  by_cases i < 32
  · simp [show i - 4 < 28 by omega]
  · simp [BitVec.getLsbD_of_ge v i (by omega)]

/-- A word that agrees with `v` above the stack has no more ones in the undescribed bits of `Status` (R36). -/
theorem undescribed_of_agrees (p : Params) (v w : Word) (hv : v &&& ~~~statusDescribed p = 0#32)
    (h : ∀ i, 6 ≤ i → w.getLsbD i = v.getLsbD i) : w &&& ~~~statusDescribed p = 0#32 := by
  rw [undescribed_eq_zero_iff] at hv ⊢
  intro i hi hw
  by_cases h6 : i < 6
  · exact .inl h6
  · exact hv i hi (h i (by omega) ▸ hw)

end Sys2Proof.Machine
end

section
/-! PROOFS. What every meaning keeps: the invariant, the parameters and register 0 (R21, R36, R39, R43 to R45). Each
update of the state keeps them, each shared operation of the meanings is made of such updates, and each meaning is one
of these operations. -/

namespace Sys2Proof.Machine

/-! Updates. -/

/-- What no update of the state disturbs: the parameters, register 0 and the invariant; the counter of free draws does
not fall. -/
structure Keeps (s t : State) : Prop where
  params : t.params = s.params
  zero : readSlot t.gpr 0#5 = readSlot s.gpr 0#5
  count : s.freeCount ≤ t.freeCount
  inv : s.Inv → t.Inv

theorem Keeps.refl (s : State) : Keeps s s := ⟨rfl, rfl, le_rfl, id⟩

theorem Keeps.trans {s t u : State} (h : Keeps s t) (k : Keeps t u) : Keeps s u :=
  ⟨k.params.trans h.params, k.zero.trans h.zero, h.count.trans k.count, k.inv ∘ h.inv⟩

theorem Keeps.setX (s : State) (r : RegIdx) (v : Word) : Keeps s (s.setX r v) := by
  have zero : readSlot (s.setX r v).gpr 0#5 = readSlot s.gpr 0#5 := by
    rw [State.readSlot_setX]
    exact if_neg fun h => h.2 h.1.symm
  refine ⟨by simp, zero, by simp, fun h => ⟨?_, zero.trans h.zero, ?_, ?_, ?_, ?_, ?_⟩⟩
  · simpa using h.memory
  · simpa using h.statusBits
  · simpa using h.excCode
  · simpa using h.noBranchSlot
  · simpa using h.noLoadSlot
  · simpa using h.noStoredBytes

theorem Keeps.setHiLo (s : State) (h l : Word) : Keeps s (s.setHiLo h l) :=
  ⟨rfl, rfl, le_rfl, fun h => { h with }⟩

theorem Keeps.setF (s : State) (r : RegIdx) (v : Word) : Keeps s (s.setF r v) :=
  ⟨rfl, rfl, le_rfl, fun h => { h with }⟩

theorem Keeps.setFd (s : State) (r : RegIdx) (v : DWord) : Keeps s (s.setFd r v) :=
  ⟨rfl, rfl, le_rfl, fun h => { h with }⟩

theorem Keeps.setCc1 (s : State) (c : Bool) : Keeps s (s.setCc1 c) :=
  ⟨rfl, rfl, le_rfl, fun h => { h with }⟩

theorem Keeps.storeAll (s : State) (bytes : List (Word × Byte)) : Keeps s (s.storeAll bytes) := by
  refine ⟨rfl, rfl, le_rfl, fun h => { h with memory := Memory.wf_putAll bytes s.mem h.memory, noStoredBytes := ?_ }⟩
  intro sees
  have sees' : s.params.fetchSeesStores = true := sees
  simpa [sees'] using h.noStoredBytes sees'

theorem Keeps.setStatus (s : State) (v : Word)
    (h : s.status &&& ~~~statusDescribed s.params = 0#32 → v &&& ~~~statusDescribed s.params = 0#32) :
    Keeps s { s with status := v } :=
  ⟨rfl, rfl, le_rfl, fun hs => { hs with statusBits := h hs.statusBits }⟩

theorem Keeps.popException (s : State) : Keeps s s.popException :=
  .setStatus s _ fun h => undescribed_of_agrees _ _ _ h fun i hi => popStatus_getLsbD s.status i (by omega)

/-- The host function cannot reach register 0 (R401). -/
theorem Keeps.hostApply (s : State) (r : HostReply) : Keeps s (s.hostApply r) :=
  have zero : readSlot (writeSlot r.gpr 0#5 (readSlot s.gpr 0#5)) 0#5 = readSlot s.gpr 0#5 :=
    readSlot_writeSlot_same _ _ _
  .trans (t := { s with
      gpr := writeSlot r.gpr 0#5 (readSlot s.gpr 0#5)
      hi := r.hi
      lo := r.lo
      fpr := r.fpr })
    ⟨rfl, zero, le_rfl, fun h => { h with zero := zero.trans h.zero }⟩ (.storeAll _ _)

theorem Keeps.sampleInterrupts (s : State) : Keeps s s.sampleInterrupts :=
  ⟨rfl, rfl, le_rfl, fun h => { h with }⟩

theorem Keeps.countOn (s : State) (n : Nat) (h : s.freeCount ≤ n) : Keeps s { s with freeCount := n } :=
  ⟨rfl, rfl, h, fun h => { h with }⟩

/-! Instructions that end. -/

/-- A meaning has led from `s` to `t`: what every update keeps is kept, and the counter of free draws has risen. -/
def Advance (s t : State) : Prop := Keeps s t ∧ s.freeCount < t.freeCount

theorem Keeps.advance {s t u : State} (h : Keeps s t) (k : Advance t u) : Advance s u :=
  ⟨h.trans k.1, h.count.trans_lt k.2⟩

theorem Advance.keeps {s t u : State} (h : Advance s t) (k : Keeps t u) : Advance s u :=
  ⟨h.1.trans k, h.2.trans_le k.count⟩

/-- An instruction that completes leaves a branch target or a load pending only where the parameters have delays
(R44). -/
theorem Advance.complete (s : State) (pc : Word) (target : Option Word) (load : Option LoadPending)
    (ht : s.params.branchDelaySlot = false → target = none) (hl : s.params.loadDelaySlot = false → load = none) :
    Advance s { s with
      pc := pc
      pendingTarget := target
      loadPending := load
      freeCount := s.freeCount + 1 } :=
  ⟨⟨rfl, rfl, Nat.le_succ _, fun h =>
    { h with noBranchSlot := fun off => ⟨ht off, (h.noBranchSlot off).2⟩, noLoadSlot := hl }⟩, Nat.lt_succ_self _⟩

theorem Advance.retire (s : State) : Advance s s.retire := .complete s s.nextPc none none (fun _ => rfl) fun _ => rfl

theorem Advance.retireLoad (s : State) (p : LoadPending) : Advance s (s.retireLoad p) :=
  .complete s s.nextPc none _ (fun _ => rfl) fun off => if_neg (by simp [off])

theorem Exc.code_mem (e : Exc) : e.code ∈ [0#4, 4#4, 5#4, 6#4, 7#4, 8#4, 9#4, 10#4, 12#4] := by
  cases e <;> decide

/-- Without delay slots no instruction is in one (R44). -/
theorem State.inDelaySlot_of_no_slots (s : State) (h : s.params.branchDelaySlot = false) : s.inDelaySlot = false := by
  simp [State.inDelaySlot, State.slotTarget, h]

theorem Advance.trapEntry (s : State) (e : Exc) (info : Word) : Advance s (s.trapEntry e info) :=
  ⟨⟨rfl, rfl, Nat.le_succ _, fun h =>
    { h with
      statusBits := undescribed_of_agrees _ _ _ h.statusBits fun i hi => pushStatus_getLsbD s.status i hi
      excCode := e.code_mem
      noBranchSlot := fun off => ⟨rfl, s.inDelaySlot_of_no_slots off⟩ }⟩, Nat.lt_succ_self _⟩

/-- Where the effect goes on at all, it goes on in a state with the property `P`. -/
def Effect.Next (P : State → Prop) : Effect → Prop
  | .done t | .trap t => P t
  | .stop _ | .refuse _ => True

theorem Effect.Next.mono {P Q : State → Prop} {e : Effect} (h : e.Next P) (hPQ : ∀ t, P t → Q t) : e.Next Q := by
  cases e with
  | done t | trap t => exact hPQ t h
  | stop r | refuse r => trivial

theorem Effect.Next.of_outcome {P : State → Prop} {e : Effect} {t : State} (h : e.Next P)
    (ht : e.outcome = .next t) : P t := by
  cases e with
  | done u | trap u => cases ht; exact h
  | stop r | refuse r => cases ht

/-- An effect on `s` that goes on only in states that `s` has advanced to. -/
def Effect.Advances (s : State) (e : Effect) : Prop := e.Next (Advance s)

/-! The shared operations. -/

theorem advances_retire {s t : State} (h : Keeps s t) : (Effect.done t.retire).Advances s :=
  h.advance (.retire t)

theorem advances_retireLoad {s t : State} (p : LoadPending) (h : Keeps s t) :
    (Effect.done (t.retireLoad p)).Advances s :=
  h.advance (.retireLoad t p)

theorem advances_raise (s : State) (e : Exc) (info : Word) : (s.raise e info).Advances s :=
  .trapEntry s e info

theorem advances_write (s : State) (rd : RegIdx) (v : Word) : (s.write rd v).Advances s :=
  advances_retire (.setX s rd v)

theorem advances_writeChecked (s : State) (rd : RegIdx) (t : Option Word) : (s.writeChecked rd t).Advances s := by
  cases t with
  | some v => exact advances_write s rd v
  | none => exact advances_raise s .ovf 0#32

theorem advances_writeHiLo (s : State) (r : Word × Word) : (s.writeHiLo r).Advances s :=
  advances_retire (.setHiLo s r.1 r.2)

/-- A branch that completes leaves a target pending only where there are delay slots (R471 a). -/
theorem advances_branch {s t : State} (h : Keeps s t) (taken : Bool) (target : Word) :
    (t.branch taken target).Advances s := by
  unfold State.branch
  split
  · trivial
  · split
    case isTrue slots =>
      exact h.advance (.complete t _ _ none (fun off => absurd (slots.symm.trans off) (by decide)) fun _ => rfl)
    case isFalse => exact h.advance (.complete t _ none none (fun _ => rfl) fun _ => rfl)

theorem advances_privileged {s : State} {k : Effect} (h : k.Advances s) : (s.privileged k).Advances s := by
  unfold State.privileged
  split_ifs
  · exact advances_raise s .ri 0#32
  · exact h

theorem advances_ifAligned {s : State} {k : Effect} (e : Exc) (a : Word) (h : k.Advances s) :
    (s.ifAligned e a k).Advances s := by
  unfold State.ifAligned
  split_ifs
  · exact h
  · exact advances_raise s e a

theorem advances_loadAt {s : State} {k : Effect} (a : Word) (aligned : Bool) (span : List Word)
    (h : k.Advances s) : (s.loadAt a aligned span k).Advances s := by
  unfold State.loadAt
  cases s.dataFault .addrl a aligned span with
  | some e => exact advances_raise s e a
  | none => exact h

theorem advances_storeAt (s : State) (a : Word) (aligned : Bool) (span : List Word) (bytes : List (Word × Byte)) :
    (s.storeAt a aligned span bytes).Advances s := by
  unfold State.storeAt
  cases s.dataFault .addrs a aligned span with
  | some e => exact advances_raise s e a
  | none => exact advances_retire (.storeAll s bytes)

theorem advances_evenOnly {s : State} {k : Effect} (regs : List RegIdx) (h : k.Advances s) :
    (evenOnly regs k).Advances s := by
  unfold evenOnly
  split_ifs
  · exact h
  · trivial

theorem advances_writeStatus (s : State) (v : Word) : (s.writeStatus v).Advances s := by
  unfold State.writeStatus
  split_ifs with allowed
  · refine advances_retire (.setStatus s _ fun old => ?_)
    rw [old, BitVec.or_zero]
    exact allowed
  · trivial

theorem advances_hostService (s : State) : s.hostService.Advances s := by
  unfold State.hostService
  cases Config.hostService s.hostView with
  | none => trivial
  | some r => exact advances_retire (.hostApply s r)

/-! The meanings. -/

/-- Every bare instruction advances the state: each is one of the shared operations. -/
theorem advances_wordEffect (i : Instr) (s : State) : (wordEffect i s).Advances s := by
  cases i with
  | sll | srl | sra | sllv | srlv | srav | addu | subu | and | or | xor | nor | slt | sltu
  | addiu | slti | sltiu | andi | ori | xori | lui | mfhi | mflo => exact advances_write s _ _
  | add | sub | addi => exact advances_writeChecked s _ _
  | mult | multu | div | divu => exact advances_writeHiLo s _
  | mthi | mtlo => exact advances_retire (.setHiLo s _ _)
  | beq | bne | bgez | bltz | bgtz | blez | bc1t | bc1f | j | jr => exact advances_branch (.refl s) _ _
  | bgezal | bltzal | jal | jalr => exact advances_branch (.setX s _ _) _ _
  | syscall code =>
    show Effect.Advances s (opSyscall code s)
    unfold opSyscall
    cases s.params.syscallMode with
    | trap => exact advances_raise s .syscall 0#32
    | hostService => exact advances_hostService s
  | brk => exact advances_raise s .bkpt 0#32
  | rfe => exact advances_privileged (advances_retire (.popException s))
  | mfc0 rt rd =>
    refine advances_privileged ?_
    cases s.cp0Read rd with
    | none => trivial
    | some v => exact advances_retireLoad _ (.setX s rt v)
  | mtc0 rt rd =>
    refine advances_privileged ?_
    cases cp0WriteRefusal rd with
    | some r => trivial
    | none => exact advances_writeStatus s _
  | mfc1 => exact advances_retireLoad _ (.setX s _ _)
  | mtc1 => exact advances_retireLoad _ (.setF s _ _)
  | addS | subS | mulS | divS | absS | negS | movS | cvtSD | cvtSW | cvtWD | cvtWS =>
    exact advances_evenOnly _ (advances_retire (.setF s _ _))
  | addD | subD | mulD | divD | absD | negD | movD | cvtDS | cvtDW =>
    exact advances_evenOnly _ (advances_retire (.setFd s _ _))
  | cEqS | cLtS | cLeS | cEqD | cLtD | cLeD => exact advances_evenOnly _ (advances_retire (.setCc1 s _))
  | lb | lbu | lh | lhu | lw | lwl | lwr =>
    exact advances_loadAt _ _ _ (advances_retireLoad _ (.setX s _ _))
  | lwc0 rt =>
    refine advances_loadAt _ _ _ (advances_privileged ?_)
    cases cp0WriteRefusal rt with
    | some r => trivial
    | none => exact advances_writeStatus s _
  | lwc1 => exact advances_loadAt _ _ _ (advances_retireLoad _ (.setF s _ _))
  | lwc2 | lwc3 => exact advances_loadAt _ _ _ trivial
  | sb | sh | sw | swl | swr | swc1 => exact advances_storeAt s _ _ _ _
  | swc0 rt =>
    refine advances_ifAligned _ _ (advances_privileged ?_)
    cases s.cp0Read rt with
    | none => trivial
    | some v => exact advances_storeAt s _ _ _ _
  | swc2 | swc3 => exact advances_ifAligned _ _ trivial
  | _ => trivial

/-! The words of an expansion. -/

theorem advances_runWords_cons {fuel : Nat} (ih : ∀ words t, (runWords fuel words t).Next (Keeps t)) (i : Instr)
    (rest : List Instr) (s : State) : (runWords (fuel + 1) (i :: rest) s).Advances s := by
  have first := advances_wordEffect i s
  unfold runWords
  cases hi : wordEffect i s with
  | done t =>
    rw [hi] at first
    exact (ih _ t).mono fun u => first.keeps
  | trap t => rwa [hi] at first
  | stop r | refuse r => trivial

/-- However many words are run, what every update keeps is kept. -/
theorem keeps_runWords (fuel : Nat) (words : List Instr) (s : State) : (runWords fuel words s).Next (Keeps s) := by
  induction fuel generalizing words s with
  | zero => exact .refl s
  | succ fuel ih =>
    cases words with
    | nil => exact .refl s
    | cons i rest => exact (advances_runWords_cons ih i rest s).mono fun _ => And.left

theorem withSrc_ne_nil (src : Src2) (f : RegIdx → List Item) (h : ∀ rt, f rt ≠ []) : withSrc src f ≠ [] := by
  cases src with
  | reg r => exact h r
  | const k => simp [withSrc, h]

theorem liWords_ne_nil (rd : RegIdx) (k : Word) : liWords rd k ≠ [] := by
  unfold liWords
  split_ifs <;> exact List.cons_ne_nil _ _

/-- Every expansion has a first piece; the cases named are those whose pieces depend on an operand's form or size. -/
theorem expansion_ne_nil (big : Bool) (i : Instr) : expansion big i ≠ [] := by
  cases i with
  | pLi rd k => exact fun h => liWords_ne_nil rd k (List.map_eq_nil_iff.mp h)
  | pLa rd addr | pLoadS rd addr | pStoreS rd addr => cases addr <;> exact List.cons_ne_nil _ _
  | pDiv | pDivu | pMul | pMulo | pMulou | pRem | pRemu | pSeq | pSge | pSgeu | pSgt | pSgtu | pSle | pSleu | pSne
  | pBge | pBgeu | pBgt | pBgtu | pBle | pBleu | pBlt | pBltu =>
    exact withSrc_ne_nil _ _ fun _ => List.cons_ne_nil _ _
  | _ => exact List.cons_ne_nil _ _

/-- Every expansion has a first word (R121). -/
theorem expand_ne_nil (big delay : Bool) (i : Instr) : expand big delay i ≠ [] := by
  unfold expand
  cases h : expansion big i with
  | nil => exact absurd h (expansion_ne_nil big i)
  | cons it rest => cases it <;> exact List.cons_ne_nil _ _

theorem advances_runWords (words : List Instr) (s : State) (h : words ≠ []) :
    (runWords words.length words s).Advances s := by
  cases words with
  | nil => exact absurd rfl h
  | cons i rest => exact advances_runWords_cons (keeps_runWords rest.length) i rest s

/-! Pseudoinstructions. -/

/-- A free value put into a register, and the draw counted. -/
theorem keeps_drawInto (s : State) (r : RegIdx) (v : Word) :
    Keeps s { s.setX r v with freeCount := s.freeCount + 1 } :=
  (Keeps.setX s r v).trans (.countOn _ _ (by simp))

theorem keeps_afterPseudo (s : State) (i : Instr) : Keeps s (s.afterPseudo i) := by
  unfold State.afterPseudo
  cases assemblerTempAfter i (s.draw .assemblerTemp) with
  | some v => exact keeps_drawInto s regAt v
  | none => exact .refl s

theorem keeps_trappedPseudo (s : State) (i : Instr) : Keeps s (s.trappedPseudo i) := by
  cases i with
  | pMulo rd => exact keeps_drawInto s rd _
  | _ => exact .refl s

/-- Every pseudoinstruction advances the state: its expansion has a first word, and what comes after the words is kept
(R121). -/
theorem advances_runPseudo (i : Instr) (s : State) : (runPseudo i s).Advances s := by
  cases hw : wellFormed i with
  | false =>
    rw [runPseudo_refused i s hw]
    trivial
  | true =>
    rw [runPseudo_eq i s hw]
    have words := advances_runWords _ s (expand_ne_nil s.params.bigEndian s.params.branchDelaySlot i)
    dsimp only
    cases h : runWords _ (expand s.params.bigEndian s.params.branchDelaySlot i) s with
    | done t =>
      rw [h] at words
      exact words.keeps (keeps_afterPseudo t i)
    | trap t =>
      rw [h] at words
      exact words.keeps (keeps_trappedPseudo t i)
    | stop r | refuse r => trivial

/-! Every meaning, and a step. -/

/-- A bare instruction's meaning is its effect: a look at each mnemonic, where the hypothesis rules the
pseudoinstructions out. -/
theorem exec_of_bare (i : Instr) (s : State) (h : i.isPseudo = false) : exec i s = (wordEffect i s).outcome := by
  cases i <;> cases h <;> rfl

theorem advance_of_exec (i : Instr) (s t : State) (h : exec i s = .next t) : Advance s t := by
  cases hp : i.isPseudo with
  | false => exact (advances_wordEffect i s).of_outcome (exec_of_bare i s hp ▸ h)
  | true => exact (advances_runPseudo i s).of_outcome (exec_of_isPseudo i s hp ▸ h)

/-- Settles O15: every meaning is an advance, which keeps what the invariant speaks of. -/
theorem everyMeaningKeepsInvariant : Obligations.EveryMeaningKeepsInvariant := by
  intro i s t hs h
  obtain ⟨keeps, counts⟩ := advance_of_exec i s t h
  exact ⟨keeps.inv hs, keeps.params, counts⟩

theorem State.decoded_cases (t : State) (w : Word) :
    (∃ i, t.decoded w = .ready i t) ∨ (∃ e info, t.decoded w = .trapped (t.trapEntry e info)) ∨
      ∃ r, t.decoded w = .refused r := by
  unfold State.decoded
  cases decodeWord w with
  | instr i => exact .inl ⟨i, rfl⟩
  | reserved => exact .inr (.inl ⟨.ri, 0#32, rfl⟩)
  | unlisted | mustBeZero => exact .inr (.inr ⟨_, rfl⟩)

/-- What comes before the instruction, all of it in the state whose interrupt lines have been sampled (R31): an
instruction is decoded, an exception taken, or the word refused. -/
theorem State.fetch_cases (s : State) :
    (∃ i, s.fetch = .ready i s.sampleInterrupts) ∨
      (∃ e info, s.fetch = .trapped (s.sampleInterrupts.trapEntry e info)) ∨ ∃ r, s.fetch = .refused r := by
  unfold State.fetch
  dsimp only
  cases s.sampleInterrupts.interruptTaken with
  | true => exact .inr (.inl ⟨.int, 0#32, rfl⟩)
  | false =>
    cases s.sampleInterrupts.fetchFault with
    | some e => exact .inr (.inl ⟨e, _, rfl⟩)
    | none =>
      cases s.sampleInterrupts.fetchStale with
      | true => exact .inr (.inr ⟨_, rfl⟩)
      | false => exact s.sampleInterrupts.decoded_cases _

theorem step_cases (s t : State) (h : step s = .next t) :
    (∃ i, exec i s.sampleInterrupts = .next t) ∨ ∃ e info, t = s.sampleInterrupts.trapEntry e info := by
  unfold step at h
  rcases s.fetch_cases with ⟨i, hf⟩ | ⟨e, info, hf⟩ | ⟨r, hf⟩
  · rw [hf] at h
    exact .inl ⟨i, h⟩
  · rw [hf] at h
    cases h
    exact .inr ⟨e, info, rfl⟩
  · rw [hf] at h
    cases h

/-- Settles O14: a step samples the interrupt lines and then executes an instruction or enters a trap; each keeps the
invariant. -/
theorem stepKeepsInvariant : Obligations.StepKeepsInvariant := by
  intro s t hs h
  have sampled := (Keeps.sampleInterrupts s).inv hs
  rcases step_cases s t h with ⟨i, hi⟩ | ⟨e, info, rfl⟩
  · exact (advance_of_exec i _ t hi).1.inv sampled
  · exact (Advance.trapEntry _ e info).1.inv sampled

end Sys2Proof.Machine
end

section
/-! PROOFS. A word in memory: where its bytes lie after a store, and that it is the word read there; and what the step
runs (R31, R62, R65, R66, R70). -/

namespace Sys2Proof.Machine

/-! Words in memory. -/

theorem wordSpan_nodup (a : Word) : (wordSpan a).Nodup := by
  simp only [wordSpan, List.nodup_cons, List.mem_cons, List.not_mem_nil, or_false, not_or, not_false_eq_true,
    List.nodup_nil, and_true]
  refine ⟨⟨?_, ?_, ?_⟩, ⟨?_, ?_⟩, ?_⟩ <;> bv_omega

theorem wordBytes_addresses (big : Bool) (a v : Word) : (wordBytes big a v).map Prod.fst = wordSpan a := by
  cases big <;> rfl

theorem storedWord_isSome (big : Bool) (a v p : Word) : (storedWord big a v p).isSome = true ↔ p ∈ wordSpan a := by
  unfold storedWord
  split_ifs <;> simp [wordSpan, *]

theorem mem_wordBytes_of_storedWord (big : Bool) (a v p : Word) (b : Byte) (h : storedWord big a v p = some b) :
    (p, b) ∈ wordBytes big a v := by
  unfold storedWord at h
  split_ifs at h <;> cases h <;> simp [wordBytes, bytesOfWord, *]

/-- After a word is stored its four bytes are those of the word, and every other byte is as before (R66). -/
theorem State.byte_storeAll_wordBytes (s : State) (big : Bool) (a v p : Word) :
    (s.storeAll (wordBytes big a v)).byte p = (storedWord big a v p).getD (s.byte p) := by
  cases h : storedWord big a v p with
  | some b =>
    exact Memory.byteAt_putAll_mem _ s.mem p b (by rw [wordBytes_addresses]; exact wordSpan_nodup a)
      (mem_wordBytes_of_storedWord big a v p b h)
  | none =>
    refine Memory.byteAt_putAll_other _ s.mem p fun q hq e => ?_
    have : p ∈ wordSpan a := wordBytes_addresses big a v ▸ List.mem_map.mpr ⟨q, hq, e⟩
    rw [← storedWord_isSome big a v p, h] at this
    cases this

/-- A word store whose checks pass writes the word's bytes and nothing else (R310, R311). -/
theorem State.storeWord_passes (s : State) (a v : Word) (ha : a.toNat % 4 = 0) (h : s.CanAccess a (wordSpan a)) :
    StoresBytes (s.storeAt a (aligned4 a) (wordSpan a) (wordBytes s.params.bigEndian a v)).outcome s
      (storedWord s.params.bigEndian a v) :=
  s.storeAt_passes a _ _ _ _ ((aligned4_iff a).mpr ha) h (s.byte_storeAll_wordBytes _ a v) fun p => by
    rw [wordBytes_addresses, storedWord_isSome]

theorem bytes_of_word (w : Word) :
    w.extractLsb' 24 8 ++ w.extractLsb' 16 8 ++ w.extractLsb' 8 8 ++ w.extractLsb' 0 8 = w := by
  rw [BitVec.extractLsb'_append_extractLsb'_eq_extractLsb' (by decide),
    BitVec.extractLsb'_append_extractLsb'_eq_extractLsb' (by decide),
    BitVec.extractLsb'_append_extractLsb'_eq_extractLsb' (by decide), BitVec.extractLsb'_eq_self]

/-- Memory that holds a word's bytes at `a` reads as the word there, in either byte order (R65). -/
theorem State.word_of_storedWord (s : State) (a w : Word)
    (h : ∀ p ∈ wordSpan a, some (s.byte p) = storedWord s.params.bigEndian a w p) : s.word a = w := by
  have h0 := h a (by simp [wordSpan])
  have h1 := h (a + 1#32) (by simp [wordSpan])
  have h2 := h (a + 2#32) (by simp [wordSpan])
  have h3 := h (a + 3#32) (by simp [wordSpan])
  simp [storedWord] at h0 h1 h2 h3
  rw [State.word, h0, h1, h2, h3]
  cases s.params.bigEndian <;> exact bytes_of_word w

/-! The step. -/

theorem State.sampleInterrupts_eq (s : State) :
    s.sampleInterrupts = { s with intLines := s.intSchedule.headD 0#5, intSchedule := s.intSchedule.tail } := by
  unfold State.sampleInterrupts State.nextLines
  cases s.intSchedule <;> rfl

/-- Settles O6: with nothing in the way the fetch decodes the word at `pc`. -/
theorem stepRunsDecodedInstruction : Obligations.StepRunsDecodedInstruction := by
  intro s t i ht hi hf hs hd
  rw [← s.sampleInterrupts_eq] at ht
  subst ht
  have ready : s.fetch = .ready i s.sampleInterrupts := by
    simp only [State.fetch, State.decoded, hi, hf, hs, hd]
    rfl
  rw [step, ready]

/-! The word placed. -/

/-- No interrupt comes with the step that runs a placed word: a request it would take is dropped (notes/assumptions
11). -/
theorem State.interruptTaken_placeWord (s : State) (w : Word) :
    (s.placeWord w).sampleInterrupts.interruptTaken = false := by
  cases h : s.sampleInterrupts.interruptTaken with
  | true =>
    have lines : (s.placeWord w).sampleInterrupts.intLines = 0#5 := by
      simp [State.placeWord, State.nextLines, h]
    rw [State.interruptTaken, lines, spreadLevels_none, BitVec.and_zero, bne_self_eq_false, Bool.and_false]
  | false =>
    have schedule : (s.placeWord w).intSchedule = s.intSchedule := by
      simp [State.placeWord, h]
    have lines : (s.placeWord w).nextLines = s.nextLines := by
      simp [State.nextLines, schedule]
    rw [← h]
    unfold State.interruptTaken
    rw [State.sampleInterrupts_intLines, lines]
    rfl

theorem State.fetchFault_eq_none (s : State) (ha : aligned4 s.pc = true) (h : s.CanAccess s.pc (wordSpan s.pc)) :
    s.fetchFault = none := by
  obtain ⟨hk, hm⟩ := (s.canAccess_iff s.pc (wordSpan s.pc)).mp h
  simp [State.fetchFault, ha, hk, hm]

/-- The bytes of a placed word count as no stores (notes/assumptions 11). -/
theorem State.fetchStale_placeWord (s : State) (w : Word) : (s.placeWord w).sampleInterrupts.fetchStale = false := by
  have fresh : ∀ a ∈ wordSpan s.pc, a.toNat ∉ (s.placeWord w).storedBytes := by
    intro a ha h
    have kept : ∀ b ∈ wordSpan s.pc, ¬ b.toNat = a.toNat := by
      simpa using (List.mem_filter.mp h).2
    exact kept a ha rfl
  have none_stale : ((wordSpan s.pc).any fun a => (s.placeWord w).storedBytes.contains a.toNat) = false := by
    simpa using fresh
  exact (congrArg (!(s.placeWord w).params.fetchSeesStores && ·) none_stale).trans (Bool.and_false _)

theorem State.word_placeWord (s : State) (w : Word) : (s.placeWord w).word s.pc = w := by
  refine State.word_of_storedWord _ _ _ fun p hp => ?_
  obtain ⟨b, hb⟩ := Option.isSome_iff_exists.mp ((storedWord_isSome s.params.bigEndian s.pc w p).mpr hp)
  have stored := s.byte_storeAll_wordBytes s.params.bigEndian s.pc w p
  rw [hb] at stored
  exact (congrArg some stored).trans hb.symm

/-- Settles O7: the placed word passes every check of the fetch and is the one read at `pc`. -/
theorem placedWordRuns : Obligations.PlacedWordRuns := by
  intro s w i ha hc hd
  have placed : s.withFetchWord 32 w.toNat = s.placeWord w := by
    rw [State.withFetchWord, Nat.mod_eq_of_lt w.isLt, BitVec.ofNat_toNat, BitVec.setWidth_eq]
  rw [placed]
  refine stepRunsDecodedInstruction _ _ i (State.sampleInterrupts_eq _) (s.interruptTaken_placeWord w)
    (State.fetchFault_eq_none _ ha hc) (s.fetchStale_placeWord w) ?_
  exact (congrArg decodeWord (s.word_placeWord w)).trans hd

end Sys2Proof.Machine
end

section
/-! PROOFS. Register 0 and the reads of a register in its load's delay (R21, R44, R472). -/

namespace Sys2Proof.Machine

/-! A destination that discards what is written to it. -/

/-- What `e` does to `s`, `e₀` does too, but for the general registers, which `e₀` leaves alone, and the load it leaves
in its delay: the relation between an instruction and the same one with destination 0 (R21). -/
def DiscardedAs (s : State) (e e₀ : Effect) : Prop :=
  match e with
  | .done t | .trap t => ∃ u, e₀.outcome = .next u ∧ SameGpr s u ∧
      { u with gpr := t.gpr, loadPending := t.loadPending } = t
  | .stop _ | .refuse _ => e₀ = e

theorem discards_of (f : RegIdx → Instr) (s : State) (e : RegIdx → Effect) (he : ∀ rd, exec (f rd) s = (e rd).outcome)
    (h : ∀ rd, DiscardedAs s (e rd) (e 0#5)) : Discards f s := by
  intro rd
  have hrd := h rd
  rw [he, he]
  cases hx : e rd with
  | done t | trap t => rwa [hx] at hrd
  | stop r | refuse r =>
    rw [hx] at hrd
    exact congrArg Effect.outcome hrd

/-- A general register is all that a write of one touches. -/
theorem State.setX_eq (s : State) (r : RegIdx) (v : Word) : s.setX r v = { s with gpr := (s.setX r v).gpr } := by
  unfold State.setX
  split <;> rfl

theorem discarded_raise (s : State) (x : Exc) (info : Word) : DiscardedAs s (s.raise x info) (s.raise x info) :=
  ⟨_, rfl, fun _ => rfl, rfl⟩

theorem discarded_setX_retireWith (s : State) (rd : RegIdx) (v v₀ : Word) (p p₀ : Option LoadPending) :
    DiscardedAs s (.done ((s.setX rd v).retireWith p)) (.done ((s.setX 0#5 v₀).retireWith p₀)) := by
  refine ⟨_, rfl, fun _ => rfl, ?_⟩
  rw [State.setX_eq s rd v]
  rfl

/-- What a branch or jump that completes makes of the state (R231, R471 a). -/
theorem State.branch_eq_done (s : State) (taken : Bool) (target : Word) (h : s.inDelaySlot = false) :
    s.branch taken target = .done { s with
      pc := if s.params.branchDelaySlot = false ∧ taken = true then target else s.pc + 4#32
      pendingTarget :=
        if s.params.branchDelaySlot = true then some (if taken then target else s.pc + 8#32) else none
      loadPending := none
      freeCount := s.freeCount + 1 } := by
  unfold State.branch
  rw [if_neg (by simp [h])]
  cases s.params.branchDelaySlot <;> simp

/-- A linking jump to register 0 jumps as any other; in a delay slot both are refused (R471 c). -/
theorem discarded_setX_branch (s : State) (rd : RegIdx) (v v₀ target : Word) (taken : Bool) :
    DiscardedAs s ((s.setX rd v).branch taken target) ((s.setX 0#5 v₀).branch taken target) := by
  cases hi : s.inDelaySlot with
  | true =>
    rw [State.branch_refused _ _ _ (by simpa using hi), State.branch_refused _ _ _ (by simpa using hi)]
    rfl
  | false =>
    rw [State.branch_eq_done _ _ _ (by simpa using hi), State.branch_eq_done _ _ _ (by simpa using hi),
      State.setX_zero, State.setX_eq s rd v]
    exact ⟨_, rfl, fun _ => rfl, rfl⟩

theorem discarded_writeChecked (s : State) (rd : RegIdx) (t : Option Word) :
    DiscardedAs s (s.writeChecked rd t) (s.writeChecked 0#5 t) := by
  cases t with
  | some v => exact discarded_setX_retireWith s rd v v none none
  | none => exact discarded_raise s .ovf 0#32

theorem discarded_loadAt {s : State} {k k₀ : Effect} (a : Word) (aligned : Bool) (span : List Word)
    (h : DiscardedAs s k k₀) : DiscardedAs s (s.loadAt a aligned span k) (s.loadAt a aligned span k₀) := by
  unfold State.loadAt
  cases s.dataFault .addrl a aligned span with
  | some e => exact discarded_raise s e a
  | none => exact h

theorem discarded_mfc0 (s : State) (rd n : RegIdx) : DiscardedAs s (opMfc0 rd n s) (opMfc0 0#5 n s) := by
  unfold opMfc0 State.privileged
  cases s.userMode with
  | true => exact discarded_raise s .ri 0#32
  | false =>
    cases s.cp0Read n with
    | none => rfl
    | some v => exact discarded_setX_retireWith s rd v v _ _

/-! The same for instructions, by the shared operation that each is. -/

theorem discards_write (f : RegIdx → Instr) (s : State) (v : RegIdx → Word)
    (h : ∀ rd, exec (f rd) s = (s.write rd (v rd)).outcome) : Discards f s :=
  discards_of f s _ h fun rd => discarded_setX_retireWith s rd _ _ none none

theorem discards_writeChecked (f : RegIdx → Instr) (s : State) (t : Option Word)
    (h : ∀ rd, exec (f rd) s = (s.writeChecked rd t).outcome) : Discards f s :=
  discards_of f s _ h fun rd => discarded_writeChecked s rd t

/-- A load's value may depend on its destination, as a partial-word load's does. -/
theorem discards_load (f : RegIdx → Instr) (s : State) (a : Word) (aligned : Bool) (span : List Word)
    (v : RegIdx → Word) (b : Bool)
    (h : ∀ rd, exec (f rd) s =
      (s.loadAt a aligned span (.done ((s.setX rd (v rd)).retireLoad (.gpr rd b)))).outcome) : Discards f s :=
  discards_of f s _ h fun rd => discarded_loadAt a aligned span (discarded_setX_retireWith s rd _ _ _ _)

theorem discards_refused (f : RegIdx → Instr) (s : State) (r : Refusal) (h : ∀ rd, exec (f rd) s = .refused r) :
    Discards f s :=
  discards_of f s (fun _ => .refuse r) h fun _ => rfl

/-- A write of one general register leaves what every other reads as, in its load's delay or out of it (R21). -/
theorem State.x_setX_other (s : State) (r q : RegIdx) (v : Word) (h : q ≠ r) : (s.setX r v).x q = s.x q := by
  have slot : readSlot (s.setX r v).gpr q = readSlot s.gpr q := by
    rw [State.readSlot_setX, if_neg fun e => h e.1]
  have delayed : (s.setX r v).gprDelayed q = s.gprDelayed q := by
    rw [State.gprDelayed, State.setX_params, State.setX_loadPending]
    rfl
  simp only [State.x, State.draw, delayed, slot, State.setX_freeCount]

/-- Settles O17: no meaning writes register 0, as each is an advance; and each instruction with a destination is one of
the shared operations, which discard a write to register 0 and do all else as usual. -/
theorem registerZeroIsHardwired : Obligations.RegisterZeroIsHardwired := by
  intro s rs rt sh imm v
  refine ⟨s.x_zero, s.setX_zero v, fun r hr hd => ⟨?_, fun q => s.x_setX_other r q v⟩,
    fun i t h => (advance_of_exec i s t h).1.zero, ?_⟩
  · rw [s.x_setX r r v hd, if_pos ⟨rfl, hr⟩]
  have write {f v} h := discards_write f s v h
  have checked {f t} h := discards_writeChecked f s t h
  have load {f a al span v b} h := discards_load f s a al span v b h
  simp only [List.forall_mem_cons]
  exact ⟨
    -- the shifts
    write fun _ => rfl, write fun _ => rfl, write fun _ => rfl,
    write fun _ => rfl, write fun _ => rfl, write fun _ => rfl,
    -- jalr, mfhi, mflo
    discards_of _ s _ (fun _ => rfl) fun rd => discarded_setX_branch s rd _ _ _ _,
    write fun _ => rfl, write fun _ => rfl,
    -- add, addu, sub, subu
    checked fun _ => rfl, write fun _ => rfl, checked fun _ => rfl, write fun _ => rfl,
    -- the logical operations and comparisons of two registers
    write fun _ => rfl, write fun _ => rfl, write fun _ => rfl,
    write fun _ => rfl, write fun _ => rfl, write fun _ => rfl,
    -- the operations with an immediate
    checked fun _ => rfl, write fun _ => rfl, write fun _ => rfl,
    write fun _ => rfl, write fun _ => rfl, write fun _ => rfl,
    write fun _ => rfl, write fun _ => rfl,
    -- the moves from the coprocessors
    discards_of _ s _ (fun _ => rfl) fun rd => discarded_mfc0 s rd rt,
    discards_of _ s _ (fun _ => rfl) fun rd => discarded_setX_retireWith s rd _ _ _ _,
    discards_refused _ s _ fun _ => rfl, discards_refused _ s _ fun _ => rfl,
    -- the loads
    load fun _ => rfl, load fun _ => rfl, load fun _ => rfl, load fun _ => rfl,
    load fun _ => rfl, load fun _ => rfl, load fun _ => rfl,
    fun _ h => absurd h List.not_mem_nil⟩

/-! Reads in a load's delay. -/

/-- Settles O18: the register of the load, and no other, is in its delay. -/
theorem loadDelayReads : Obligations.LoadDelayReads := by
  intro s r q b
  refine ⟨fun delays hp => ?_, fun delays hp => ?_, fun none => ?_⟩
  · have f_settled : s.fprDelayed r = false := by simp [State.fprDelayed, hp]
    have x_delayed : s.gprDelayed r = (q == r) := by simp [State.gprDelayed, delays, hp]
    refine ⟨s.f_of_settled r f_settled, fun hr => ⟨?_, ?_, ?_, ?_⟩⟩
    · rintro rfl
      simp [State.x, State.draw, x_delayed, hr]
    · intro hq
      simp [State.x, x_delayed, hr, Ne.symm hq]
    · rintro rfl
      simp [State.xMerged, hp, hr]
    · rintro rfl
      simp [State.xMerged, hp]
  · have x_settled : s.gprDelayed r = false := by simp [State.gprDelayed, hp]
    have f_delayed : s.fprDelayed r = (q == r) := by simp [State.fprDelayed, delays, hp]
    refine ⟨?_, ?_, fun hr => by simp [s.x_of_settled r x_settled, hr]⟩
    · rintro rfl
      simp [State.f, State.draw, f_delayed]
    · intro hq
      simp [State.f, f_delayed, Ne.symm hq]
  · have x_settled : s.gprDelayed r = false := by rcases none with h | h <;> simp [State.gprDelayed, h]
    have f_settled : s.fprDelayed r = false := by rcases none with h | h <;> simp [State.fprDelayed, h]
    refine ⟨s.f_of_settled r f_settled, fun hr => ?_⟩
    have x_slot : s.x r = readSlot s.gpr r := by rw [s.x_of_settled r x_settled, if_neg hr]
    refine ⟨x_slot, ?_⟩
    unfold State.xMerged
    split
    · exact if_neg hr
    · exact x_slot

end Sys2Proof.Machine
end

section
/-! PROOFS. What kernel mode reads and writes of the registers of coprocessor 0 (R35, R36, R38, R40, R335, R337). -/

namespace Sys2Proof.Machine

/-! Reads. -/

/-- Merging two words under a mask takes the bits of the first where the mask has ones. -/
theorem masked_getLsbD (v free mask : Word) (i : Nat) (h : mask.getLsbD i = true) :
    ((v &&& mask) ||| (free &&& ~~~mask)).getLsbD i = v.getLsbD i := by
  simp [h]

/-- A read of `Status` delivers its described bits (R36). -/
theorem State.statusRead_getLsbD (s : State) (i : Nat) (hi : i < 32) (h : StatusBit s.params i) :
    s.statusRead.getLsbD i = s.status.getLsbD i :=
  masked_getLsbD _ _ _ i ((statusDescribed_getLsbD s.params i hi).mpr h)

/-- Each level has a place of its own in 6..30 (R7, R36, R38). -/
theorem intBit_of_wf (p : Params) (h : p.wf = true) (l : Fin 5) :
    6 ≤ p.intBit[l] ∧ p.intBit[l] ≤ 30 ∧ ∀ m : Fin 5, p.intBit[m] = p.intBit[l] → m = l := by
  simp only [Params.wf, Bool.and_eq_true, List.all_eq_true, decide_eq_true_eq] at h
  obtain ⟨range, nodup⟩ := h
  obtain ⟨low, high⟩ := range p.intBit[l] (Vector.mem_toList_iff.mpr (Vector.getElem_mem _))
  refine ⟨low, high, fun m e => Fin.ext ?_⟩
  have size : p.intBit.toList.length = 5 := p.intBit.length_toList
  exact (nodup.getElem_inj_iff (hi := by omega) (hj := by omega)).mp (by simpa using e)

theorem bit31_getLsbD (i : Nat) : (0x80000000#32).getLsbD i = decide (i = 31) := by
  rw [show 0x80000000#32 = BitVec.twoPow 32 31 by decide, BitVec.getLsbD_twoPow]
  simp [eq_comm]

theorem excCode_getLsbD (c : BitVec 4) (i : Nat) :
    (c.setWidth 32 <<< 2).getLsbD i = (decide (2 ≤ i ∧ i < 6) && c.getLsbD (i - 2)) := by
  rw [BitVec.getLsbD_shiftLeft, BitVec.getLsbD_setWidth]
  by_cases h2 : 2 ≤ i
  · by_cases h6 : i < 6
    · simp [h2, h6, show i < 32 by omega, show ¬ i < 2 by omega, show i - 2 < 32 by omega]
    · simp [h6, BitVec.getLsbD_of_ge c (i - 2) (by omega)]
  · simp [h2, show i < 2 by omega]

/-- The described bits of `Cause`, one part at a time (R38). -/
theorem State.causeBits_getLsbD (s : State) (i : Nat) :
    s.causeBits.getLsbD i = true ↔
      ((i = 31 ∧ s.bd = true) ∨ (2 ≤ i ∧ i < 6) ∧ s.excCode.getLsbD (i - 2) = true) ∨
        i < 32 ∧ ∃ l : Fin 5, s.intLines.getLsbD l = true ∧ s.params.intBit[l] = i := by
  have bd : (if s.bd then 0x80000000#32 else 0#32).getLsbD i = true ↔ i = 31 ∧ s.bd = true := by
    cases s.bd <;> simp [bit31_getLsbD]
  rw [State.causeBits, BitVec.getLsbD_or, BitVec.getLsbD_or, Bool.or_eq_true, Bool.or_eq_true, bd, excCode_getLsbD,
    spreadLevels_getLsbD, Bool.and_eq_true, decide_eq_true_eq]

/-- The bits of `Cause` that the spec describes (R38). -/
theorem causeDescribed_getLsbD (p : Params) (i : Nat) (hi : i < 32)
    (h : i = 31 ∨ (2 ≤ i ∧ i < 6) ∨ ∃ l : Fin 5, p.intBit[l] = i) : (causeDescribed p).getLsbD i = true := by
  have fixed : 0x8000003c#32 = 0x80000000#32 ||| (0xf#4).setWidth 32 <<< 2 := by decide
  rw [causeDescribed, fixed, BitVec.getLsbD_or, BitVec.getLsbD_or, bit31_getLsbD, excCode_getLsbD, Bool.or_eq_true,
    spreadLevels_getLsbD]
  rcases h with rfl | h | h
  · simp
  · have ones : (0xf#4).getLsbD (i - 2) = true := by
      rw [show 0xf#4 = BitVec.allOnes 4 by decide, BitVec.getLsbD_allOnes, decide_eq_true_eq]
      omega
    simp [h, ones]
  · obtain ⟨l, hl⟩ := h
    exact .inr ⟨hi, l, levels_all_getLsbD l, hl⟩

/-- A read of `Cause` delivers its described bits (R38): `ExcCode` and `BD` lie where no level has its place, and no two
levels have one place. -/
theorem State.causeRead_described (s : State) (hw : s.params.wf = true) :
    s.causeRead.extractLsb' 2 4 = s.excCode ∧ s.causeRead.getLsbD 31 = s.bd ∧
      ∀ l : Fin 5, s.causeRead.getLsbD s.params.intBit[l] = s.intLines.getLsbD l := by
  have described : ∀ i, i < 32 → (i = 31 ∨ (2 ≤ i ∧ i < 6) ∨ ∃ l : Fin 5, s.params.intBit[l] = i) →
      s.causeRead.getLsbD i = s.causeBits.getLsbD i := fun i hi h =>
    masked_getLsbD _ _ _ i (causeDescribed_getLsbD s.params i hi h)
  have noLevel : ∀ i, i < 6 ∨ i = 31 → ¬ ∃ l : Fin 5, s.intLines.getLsbD l = true ∧ s.params.intBit[l] = i := by
    rintro i hi ⟨l, -, rfl⟩
    obtain ⟨low, high, -⟩ := intBit_of_wf s.params hw l
    omega
  refine ⟨BitVec.eq_of_getLsbD_eq fun i hi => ?_, ?_, fun l => ?_⟩
  · rw [BitVec.getLsbD_extractLsb', described (2 + i) (by omega) (.inr (.inl (by omega))), Bool.eq_iff_iff,
      Bool.and_eq_true, s.causeBits_getLsbD, or_iff_left fun h => noLevel (2 + i) (by omega) h.2]
    simp [hi, show ¬ 2 + i = 31 by omega, show 2 + i < 6 by omega]
  · rw [described 31 (by decide) (.inl rfl), Bool.eq_iff_iff, s.causeBits_getLsbD,
      or_iff_left fun h => noLevel 31 (.inr rfl) h.2]
    simp
  · obtain ⟨low, high, own⟩ := intBit_of_wf s.params hw l
    have only : (∃ m : Fin 5, s.intLines.getLsbD m = true ∧ s.params.intBit[m] = s.params.intBit[l]) ↔
        s.intLines.getLsbD l = true :=
      ⟨fun ⟨m, hm, e⟩ => own m e ▸ hm, fun h => ⟨l, h, rfl⟩⟩
    rw [described _ (by omega) (.inr (.inr ⟨l, rfl⟩)), Bool.eq_iff_iff, s.causeBits_getLsbD, only]
    generalize s.params.intBit[l] = i at low high ⊢
    simp [show ¬ i = 31 by omega, show ¬ i < 6 by omega, show i < 32 by omega]

/-! The instructions in kernel mode. -/

/-- `mfc0` of a register the spec describes loads what a read of it delivers (R335). -/
theorem mfc0_kernel (s : State) (rt n : RegIdx) (v : Word) (hk : s.userMode = false) (hv : s.cp0Read n = some v) :
    LoadsGpr (exec (.mfc0 rt n) s) s rt v false := by
  have e : opMfc0 rt n s = s.writeMoved rt v := by
    rw [opMfc0, s.privileged_kernel _ hk, hv]
  show LoadsGpr (opMfc0 rt n s).outcome s rt v false
  rw [e]
  exact s.setX_retireLoad_spec rt v false

/-- `swc0` of such a register stores it where the address passes its checks (R315). -/
theorem swc0_kernel (s : State) (n rs : RegIdx) (imm : Half) (v : Word) (hk : s.userMode = false)
    (ha : (s.ea imm rs).toNat % 4 = 0) (hc : s.CanAccess (s.ea imm rs) (wordSpan (s.ea imm rs)))
    (hv : s.cp0Read n = some v) :
    StoresBytes (exec (.swc0 n imm rs) s) s (storedWord s.params.bigEndian (s.ea imm rs) v) := by
  have e : opSwc0 n imm rs s = s.storeAt (s.ea imm rs) (aligned4 (s.ea imm rs)) (wordSpan (s.ea imm rs))
      (wordBytes s.params.bigEndian (s.ea imm rs) v) := by
    rw [opSwc0, (s.ifAligned_spec _ _ _).1 ha, s.privileged_kernel _ hk, hv]
  show StoresBytes (opSwc0 n imm rs s).outcome s _
  rw [e]
  exact s.storeWord_passes _ v ha hc

/-- Settles O44: what the two instructions deliver is what a read of the register delivers, and the bits that the spec
describes pass through the read. -/
theorem cop0ReadsInKernelMode : Obligations.Cop0ReadsInKernelMode := by
  intro s rt rs imm hk hw
  refine ⟨mfc0_kernel s rt _ _ hk rfl, mfc0_kernel s rt _ _ hk rfl,
    ⟨_, s.statusRead_getLsbD, mfc0_kernel s rt _ _ hk rfl⟩,
    ⟨_, s.causeRead_described hw, mfc0_kernel s rt _ _ hk rfl⟩, fun ha hc => ⟨?_, ?_, ?_, ?_⟩⟩
  · exact swc0_kernel s _ rs imm _ hk ha hc rfl
  · exact swc0_kernel s _ rs imm _ hk ha hc rfl
  · exact ⟨_, s.statusRead_getLsbD, swc0_kernel s _ rs imm _ hk ha hc rfl⟩
  · exact ⟨_, s.causeRead_described hw, swc0_kernel s _ rs imm _ hk ha hc rfl⟩

/-! Writes. -/

/-- A write of `Status` with ones in described bits only: these bits take the value written, the others stay (R36). -/
theorem State.writeStatus_allowed (s : State) (v : Word)
    (h : ∀ i : Nat, i < 32 → v.getLsbD i = true → StatusBit s.params i) :
    WritesStatus (s.writeStatus v).outcome s v := by
  have e : s.writeStatus v =
      .done { s with status := v ||| (s.status &&& ~~~statusDescribed s.params) }.retire :=
    if_pos ((undescribed_eq_zero_iff s.params v).mpr h)
  have bit : ∀ i, i < 32 → (v ||| (s.status &&& ~~~statusDescribed s.params)).getLsbD i =
      (v.getLsbD i || (s.status.getLsbD i && !(statusDescribed s.params).getLsbD i)) := by
    intro i hi
    simp [hi]
  rw [e]
  refine ⟨_, rfl, fun i hb => ?_, fun i hb => ?_, fun _ => rfl, ⟨rfl, rfl⟩, ⟨fun _ => rfl, rfl⟩, ⟨fun _ => rfl, rfl⟩,
    rfl, rfl, rfl, rfl, rfl, rfl, rfl, s.goesOn_retireWith _ none rfl rfl rfl, rfl⟩
  · by_cases hi : i < 32
    · refine (bit i hi).trans ?_
      simp [(statusDescribed_getLsbD s.params i hi).mpr hb]
    · rw [BitVec.getLsbD_of_ge _ i (by omega), BitVec.getLsbD_of_ge _ i (by omega)]
  · by_cases hi : i < 32
    · have unset : v.getLsbD i = false := by
        simpa using fun one => hb (h i hi one)
      have undescribed : (statusDescribed s.params).getLsbD i = false := by
        simpa using fun one => hb ((statusDescribed_getLsbD s.params i hi).mp one)
      refine (bit i hi).trans ?_
      rw [unset, undescribed, Bool.not_false, Bool.and_true, Bool.false_or]
    · rw [BitVec.getLsbD_of_ge _ i (by omega), BitVec.getLsbD_of_ge _ i (by omega)]

theorem State.writeStatus_refused (s : State) (v : Word)
    (h : ¬ ∀ i : Nat, i < 32 → v.getLsbD i = true → StatusBit s.params i) :
    s.writeStatus v = .refuse .statusBitNotDescribed :=
  if_neg fun e => h ((undescribed_eq_zero_iff s.params v).mp e)

theorem cp0WriteRefusal_readOnly (n : RegIdx) (h : n ∈ [8#5, 13#5, 14#5]) :
    cp0WriteRefusal n = some .cp0RegisterReadOnly := by
  revert n
  decide

theorem cp0_notDescribed (n : RegIdx) (h : n ∉ [8#5, 12#5, 13#5, 14#5]) :
    cp0WriteRefusal n = some .cp0RegisterNotDescribed ∧ ∀ s : State, s.cp0Read n = none := by
  simp only [List.mem_cons, List.not_mem_nil, or_false, not_or] at h
  obtain ⟨h8, h12, h13, h14⟩ := h
  exact ⟨by simp [cp0WriteRefusal, h8, h12, h13, h14], fun s => by simp [State.cp0Read, h8, h12, h13, h14]⟩

theorem mtc0_kernel_refused (s : State) (rt n : RegIdx) (r : Refusal) (hk : s.userMode = false)
    (hr : cp0WriteRefusal n = some r) : exec (.mtc0 rt n) s = .refused r := by
  show (opMtc0 rt n s).outcome = _
  rw [opMtc0, s.privileged_kernel _ hk, hr]
  rfl

theorem mtc0_kernel_status (s : State) (rt : RegIdx) (hk : s.userMode = false) :
    exec (.mtc0 rt 12#5) s = (s.writeStatus (s.x rt)).outcome := by
  show (opMtc0 rt 12#5 s).outcome = _
  rw [opMtc0, s.privileged_kernel _ hk]
  rfl

theorem lwc0_kernel_refused (s : State) (n rs : RegIdx) (imm : Half) (r : Refusal) (hk : s.userMode = false)
    (ha : (s.ea imm rs).toNat % 4 = 0) (hc : s.CanAccess (s.ea imm rs) (wordSpan (s.ea imm rs)))
    (hr : cp0WriteRefusal n = some r) : exec (.lwc0 n imm rs) s = .refused r := by
  show (opLwc0 n imm rs s).outcome = _
  rw [opLwc0, s.loadAt_passes _ _ _ _ ((aligned4_iff _).mpr ha) hc, s.privileged_kernel _ hk, hr]
  rfl

theorem lwc0_kernel_status (s : State) (rs : RegIdx) (imm : Half) (hk : s.userMode = false)
    (ha : (s.ea imm rs).toNat % 4 = 0) (hc : s.CanAccess (s.ea imm rs) (wordSpan (s.ea imm rs))) :
    exec (.lwc0 12#5 imm rs) s = (s.writeStatus (s.word (s.ea imm rs))).outcome := by
  show (opLwc0 12#5 imm rs s).outcome = _
  rw [opLwc0, s.loadAt_passes _ _ _ _ ((aligned4_iff _).mpr ha) hc, s.privileged_kernel _ hk]
  rfl

/-- Settles O45: both instructions write `Status` where the register number allows it, once the address has passed. -/
theorem cop0WritesInKernelMode : Obligations.Cop0WritesInKernelMode := by
  intro s rt rd rs imm hk
  refine ⟨fun h => ?_, fun h => ?_, fun ha hc => ⟨fun h => ?_, fun h => ?_, fun h => ?_, fun h => ?_⟩,
    fun ha h => ?_, fun h => ?_, fun h => ⟨?_, ?_⟩⟩
  · rw [mtc0_kernel_status s rt hk]
    exact s.writeStatus_allowed _ h
  · rw [mtc0_kernel_status s rt hk, s.writeStatus_refused _ h]
    rfl
  · rw [lwc0_kernel_status s rs imm hk ha hc]
    exact s.writeStatus_allowed _ h
  · rw [lwc0_kernel_status s rs imm hk ha hc, s.writeStatus_refused _ h]
    rfl
  · exact lwc0_kernel_refused s rd rs imm _ hk ha hc (cp0WriteRefusal_readOnly rd h)
  · exact lwc0_kernel_refused s rd rs imm _ hk ha hc (cp0_notDescribed rd h).1
  · show (opSwc0 rd imm rs s).outcome = _
    rw [opSwc0, (s.ifAligned_spec _ _ _).1 ha, s.privileged_kernel _ hk, (cp0_notDescribed rd h).2 s]
    rfl
  · exact mtc0_kernel_refused s rt rd _ hk (cp0WriteRefusal_readOnly rd h)
  · exact mtc0_kernel_refused s rt rd _ hk (cp0_notDescribed rd h).1
  · show (opMfc0 rt rd s).outcome = _
    rw [opMfc0, s.privileged_kernel _ hk, (cp0_notDescribed rd h).2 s]
    rfl

end Sys2Proof.Machine
end

section
/-! PROOFS. The floating point comparisons, the refusal of odd registers, and the instructions of coprocessors that no
text describes (R34, R41, R42, R350). -/

namespace Sys2Proof.Machine

/-- A comparison of even registers writes the flag and nothing else (R34, R350). -/
theorem setsFlag_of_even (s : State) (fs ft : RegIdx) (c : Bool) (hs : evenReg fs = true) (ht : evenReg ft = true) :
    SetsFlag (evenOnly [fs, ft] (.done (s.setCc1 c).retire)).outcome s c := by
  rw [evenOnly_even _ _ (by simp [hs, ht])]
  exact s.setCc1_spec c

/-- Settles O52: each comparison is a write of the flag guarded by its registers. -/
theorem fpComparesSetTheFlag : Obligations.FpComparesSetTheFlag := by
  intro s fs ft hs ht
  exact ⟨setsFlag_of_even s fs ft _ hs ht, setsFlag_of_even s fs ft _ hs ht, setsFlag_of_even s fs ft _ hs ht,
    setsFlag_of_even s fs ft _ hs ht, setsFlag_of_even s fs ft _ hs ht, setsFlag_of_even s fs ft _ hs ht⟩

theorem refused_of_odd (regs : List RegIdx) (k : Effect) (h : ∃ r ∈ regs, evenReg r = false) :
    (evenOnly regs k).outcome = .refused .oddFpRegister := by
  rw [evenOnly_odd regs k (by simpa using h)]
  rfl

/-- Settles O53: each of these instructions is guarded by the list of the registers it names, whatever it computes. -/
theorem oddFpRegistersRefused : Obligations.OddFpRegistersRefused := by
  intro s fd fs ft i
  refine ⟨fun odd => ?_, fun odd => ?_, fun odd => ?_⟩
  · have refused k := refused_of_odd [fd, fs, ft] k (by simpa using odd)
    revert i
    simp only [List.forall_mem_cons]
    exact ⟨refused _, refused _, refused _, refused _, refused _, refused _, refused _, refused _,
      fun _ h => absurd h List.not_mem_nil⟩
  · have refused k := refused_of_odd [fd, fs] k (by simpa using odd)
    revert i
    simp only [List.forall_mem_cons]
    exact ⟨refused _, refused _, refused _, refused _, refused _, refused _, refused _, refused _, refused _,
      refused _, refused _, refused _, fun _ h => absurd h List.not_mem_nil⟩
  · have refused k := refused_of_odd [fs, ft] k (by simpa using odd)
    revert i
    simp only [List.forall_mem_cons]
    exact ⟨refused _, refused _, refused _, refused _, refused _, refused _,
      fun _ h => absurd h List.not_mem_nil⟩

/-- Settles O31: eight of the instructions and the two branches stop at once, the loads once their address has passed
every check, the stores once it is aligned. -/
theorem undescribedCoprocessorsRefused : Obligations.UndescribedCoprocessorsRefused := by
  intro s rt rd rs imm i
  refine ⟨?_, fun hi ha hc => ?_, fun hi ha => ?_, ?_⟩
  · revert i
    simp only [List.forall_mem_cons]
    exact ⟨rfl, rfl, rfl, rfl, rfl, rfl, rfl, rfl, fun _ h => absurd h List.not_mem_nil⟩
  · have stops := s.loadAt_passes _ _ _ (.refuse .coprocessorAbsent) ((aligned4_iff _).mpr ha) hc
    revert i
    simp only [List.forall_mem_cons]
    exact ⟨congrArg Effect.outcome stops, congrArg Effect.outcome stops, fun _ h => absurd h List.not_mem_nil⟩
  · have stops := (s.ifAligned_spec .addrs _ (.refuse .coprocessorAbsent)).1 ha
    revert i
    simp only [List.forall_mem_cons]
    exact ⟨congrArg Effect.outcome stops, congrArg Effect.outcome stops, fun _ h => absurd h List.not_mem_nil⟩
  · revert i
    simp only [List.forall_mem_cons]
    exact ⟨rfl, rfl, fun _ h => absurd h List.not_mem_nil⟩

end Sys2Proof.Machine
end

section
/-! PROOFS. Halfwords and words stored and read back, and the two ways a fetch ends before an instruction runs: its own
exception, and the refusal of a byte that the program has stored (R65, R66, R70, R79, R82). -/

namespace Sys2Proof.Machine

/-! Words and halfwords read back. -/

theorem State.word_storeAll_wordBytes (s : State) (a w : Word) :
    (s.storeAll (wordBytes s.params.bigEndian a w)).word a = w := by
  refine State.word_of_storedWord _ a w fun p hp => ?_
  obtain ⟨b, hb⟩ := Option.isSome_iff_exists.mp ((storedWord_isSome s.params.bigEndian a w p).mpr hp)
  rw [s.byte_storeAll_wordBytes, State.storeAll_params, hb, Option.getD_some]

/-- After a halfword is stored its two bytes are those of the halfword, and every other byte is as before (R66). -/
theorem State.byte_storeAll_halfBytes (s : State) (big : Bool) (a : Word) (h : Half) (p : Word) :
    (s.storeAll (halfBytes big a h)).byte p = (storedHalf big a h p).getD (s.byte p) := by
  have written (b c : Byte) (q : Word) : (s.storeAll [(a, b), (a + 1#32, c)]).byte q =
      if q = a + 1#32 then c else if q = a then b else s.byte q := by
    simp only [State.byte, State.storeAll_mem, Memory.putAll_cons, Memory.putAll_nil, Memory.byteAt_put,
      BitVec.toNat_inj]
  unfold storedHalf
  by_cases h0 : p = a
  · cases big <;> simp [halfBytes, written, h0]
  · by_cases h1 : p = a + 1#32 <;> cases big <;> simp [halfBytes, written, h0, h1]

theorem bytes_of_half (h : Half) : h.extractLsb' 8 8 ++ h.extractLsb' 0 8 = h := by
  rw [BitVec.extractLsb'_append_extractLsb'_eq_extractLsb' (by decide), BitVec.extractLsb'_eq_self]

theorem State.half_storeAll_halfBytes (s : State) (a : Word) (h : Half) :
    (s.storeAll (halfBytes s.params.bigEndian a h)).half a = h := by
  simp only [State.half, s.byte_storeAll_halfBytes, State.storeAll_params]
  cases s.params.bigEndian <;> simp [storedHalf, bytes_of_half]

/-- Settles O19: a read puts together the bytes that a store of the same width puts down. -/
theorem storedWordsReadBack : Obligations.StoredWordsReadBack := fun s a v h =>
  ⟨rfl, rfl, s.word_storeAll_wordBytes a v, s.half_storeAll_halfBytes a h, s.byte_storeAll_wordBytes _ a v,
    s.byte_storeAll_halfBytes _ a h⟩

/-! Fetches of stored bytes. -/

/-- A fetch refuses a word with a byte that the program has stored, where fetches do not see stores (R82). -/
theorem State.fetchStale_iff (s : State) :
    s.fetchStale = true ↔ s.params.fetchSeesStores = false ∧ ∃ a ∈ wordSpan s.pc, a.toNat ∈ s.storedBytes := by
  simp [State.fetchStale]

theorem State.fetchStale_of_seesStores (s : State) (h : s.params.fetchSeesStores = true) : s.fetchStale = false := by
  simp [State.fetchStale, h]

theorem step_refused_of_fetchStale (s : State) (hi : s.sampleInterrupts.interruptTaken = false)
    (hf : s.sampleInterrupts.fetchFault = none) (hs : s.fetchStale = true) :
    step s = .refused .fetchOfStoredByte := by
  have stale : s.sampleInterrupts.fetchStale = true := hs
  simp [step, State.fetch, hi, hf, stale]

/-- Settles O11: what a store adds to the stored bytes is what a fetch looks for there; where fetches see stores it
looks for nothing, and the word read at `pc` is the one stored. -/
theorem fetchOfStoredBytes : Obligations.FetchOfStoredBytes := by
  refine ⟨fun s bytes a misses => ?_, fun s hi hf misses stored => ?_, fun s sees => ⟨?_, fun bytes => ?_, ?_⟩⟩
  · have remembered := (s.remembers_storeAll bytes _ fun _ => Iff.rfl).2 misses a.toNat
    simpa [BitVec.toNat_inj, or_comm] using remembered
  · exact step_refused_of_fetchStale s hi hf (s.fetchStale_iff.mpr ⟨misses, stored⟩)
  · exact s.fetchStale_of_seesStores sees
  · exact (s.remembers_storeAll bytes _ fun _ => Iff.rfl).1 sees
  · intro w i hi hf hd
    refine stepRunsDecodedInstruction _ _ i (State.sampleInterrupts_eq _) hi hf
      (State.fetchStale_of_seesStores _ sees) ?_
    exact (congrArg decodeWord (s.word_storeAll_wordBytes s.pc w)).trans hd

/-! The checks that fail, and faulting fetches. -/

theorem aligned2_eq_false_iff (a : Word) : aligned2 a = false ↔ a.toNat % 2 ≠ 0 := by
  rw [← Bool.not_eq_true, aligned2_iff]

theorem aligned4_eq_false_iff (a : Word) : aligned4 a = false ↔ a.toNat % 4 ≠ 0 := by
  rw [← Bool.not_eq_true, aligned4_iff]

theorem State.kusegDenies_eq_false_iff (s : State) (a : Word) :
    s.kusegDenies a = false ↔ ¬ (s.params.enforceKuseg = true ∧ s.userMode = true ∧ 0x80000000 ≤ a.toNat) := by
  rw [← Bool.not_eq_true, s.kusegDenies_iff]

/-- The exception of a fetch is a step of its own: trap entry in the state whose interrupt lines have been sampled
(R70, R421). -/
theorem step_of_fetchFault (s : State) (e : Exc) (hi : s.sampleInterrupts.interruptTaken = false)
    (hf : s.sampleInterrupts.fetchFault = some e) :
    Traps (step s) s.sampleInterrupts e.code (if e.recordsAddress = true then s.pc else s.badVAddr) := by
  have trapped : step s = .next (s.sampleInterrupts.trapEntry e s.pc) := by
    simp [step, State.fetch, hi, hf]
  rw [trapped]
  exact s.sampleInterrupts.raise_spec e s.pc

/-- The checks of a fetch in their order: an alignment or segment error is the address error, memory that does not
respond the instruction bus error (R70, R421). -/
theorem State.fetchFault_cases (s : State) :
    (aligned4 s.pc = false ∨ s.kusegDenies s.pc = true → s.fetchFault = some .addrl) ∧
      (aligned4 s.pc = true → s.kusegDenies s.pc = false → (∃ p ∈ wordSpan s.pc, s.mapped p = false) →
        s.fetchFault = some .ibus) := by
  refine ⟨fun h => ?_, fun ha hk hm => ?_⟩
  · rcases h with h | h <;> simp [State.fetchFault, h]
  · have unmapped : (wordSpan s.pc).all s.mapped = false := by simpa using hm
    simp [State.fetchFault, ha, hk, unmapped]

/-- Settles O9: each hypothesis names the check of the fetch that fails first. -/
theorem fetchFaultsTrap : Obligations.FetchFaultsTrap := by
  intro s hi
  obtain ⟨addressError, busError⟩ := s.sampleInterrupts.fetchFault_cases
  refine ⟨fun ha => ?_, fun _ enforced user high => ?_, fun ha allowed hm => ?_⟩
  · exact step_of_fetchFault s .addrl hi (addressError (.inl ha))
  · exact step_of_fetchFault s .addrl hi (addressError (.inr ((s.kusegDenies_iff _).mpr ⟨enforced, user, high⟩)))
  · exact step_of_fetchFault s .ibus hi (busError ha ((s.kusegDenies_eq_false_iff _).mpr allowed) hm)

end Sys2Proof.Machine
end

section
/-! PROOFS. The exceptions of the loads and stores: each of these instructions is a checked access at its address, so
the first check that fails decides (R68, R280, R289, R310, R315, R412, R413, R415, R421). -/

namespace Sys2Proof.Machine

/-! Loads. -/

theorem exec_byteLoad (s : State) (rt rs : RegIdx) (imm : Half) :
    ∀ i ∈ [Instr.lb rt imm rs, .lbu rt imm rs], ∃ k,
      exec i s = (s.loadAt (s.ea imm rs) true [s.ea imm rs] k).outcome := by
  simp only [List.forall_mem_cons]
  exact ⟨⟨_, rfl⟩, ⟨_, rfl⟩, fun _ h => absurd h List.not_mem_nil⟩

theorem exec_halfLoad (s : State) (rt rs : RegIdx) (imm : Half) :
    ∀ i ∈ [Instr.lh rt imm rs, .lhu rt imm rs], ∃ k,
      exec i s =
        (s.loadAt (s.ea imm rs) (aligned2 (s.ea imm rs)) [s.ea imm rs, s.ea imm rs + 1#32] k).outcome := by
  simp only [List.forall_mem_cons]
  exact ⟨⟨_, rfl⟩, ⟨_, rfl⟩, fun _ h => absurd h List.not_mem_nil⟩

/-- The loads of coprocessors 0, 2 and 3 check their address like the others, before their mode and register are looked
at (notes/assumptions 13). -/
theorem exec_wordLoad (s : State) (rt rs : RegIdx) (imm : Half) :
    ∀ i ∈ [Instr.lw rt imm rs, .lwc0 rt imm rs, .lwc1 rt imm rs, .lwc2 rt imm rs, .lwc3 rt imm rs], ∃ k,
      exec i s = (s.loadAt (s.ea imm rs) (aligned4 (s.ea imm rs)) (wordSpan (s.ea imm rs)) k).outcome := by
  simp only [List.forall_mem_cons]
  exact ⟨⟨_, rfl⟩, ⟨_, rfl⟩, ⟨_, rfl⟩, ⟨_, rfl⟩, ⟨_, rfl⟩, fun _ h => absurd h List.not_mem_nil⟩

theorem exec_partLoad (s : State) (rt rs : RegIdx) (imm : Half) :
    ∀ i ∈ [Instr.lwl rt imm rs, .lwr rt imm rs], ∃ k,
      exec i s = (s.loadAt (s.ea imm rs) true (wordSpan (alignedWord (s.ea imm rs))) k).outcome := by
  simp only [List.forall_mem_cons]
  exact ⟨⟨_, rfl⟩, ⟨_, rfl⟩, fun _ h => absurd h List.not_mem_nil⟩

/-- Settles O35: every load is a `loadAt` at its address, whose checks come in the order of the clauses. -/
theorem faultingLoadsTrap : Obligations.FaultingLoadsTrap := by
  intro s rt rs imm i a denied bytes halves words parts
  have byteLoad : i ∈ bytes → _ := exec_byteLoad s rt rs imm i
  have halfLoad : i ∈ halves → _ := exec_halfLoad s rt rs imm i
  have wordLoad : i ∈ words → _ := exec_wordLoad s rt rs imm i
  have partLoad : i ∈ parts → _ := exec_partLoad s rt rs imm i
  refine ⟨fun hi ha => ?_, fun hi ha => ?_, fun hi hd => ?_, fun hd => ?_⟩
  · obtain ⟨k, e⟩ := halfLoad hi
    exact e ▸ s.loadAt_address_error a _ _ k (.inl ((aligned2_eq_false_iff a).mpr ha))
  · obtain ⟨k, e⟩ := wordLoad hi
    exact e ▸ s.loadAt_address_error a _ _ k (.inl ((aligned4_eq_false_iff a).mpr ha))
  · have load : ∃ aligned span k, exec i s = (s.loadAt a aligned span k).outcome := by
      simp only [List.mem_append] at hi
      rcases hi with ((hi | hi) | hi) | hi
      · exact ⟨_, _, byteLoad hi⟩
      · exact ⟨_, _, halfLoad hi⟩
      · exact ⟨_, _, wordLoad hi⟩
      · exact ⟨_, _, partLoad hi⟩
    obtain ⟨aligned, span, k, e⟩ := load
    exact e ▸ s.loadAt_address_error a aligned span k (.inr ((s.kusegDenies_iff a).mpr hd))
  · have allowed : s.kusegDenies a = false := (s.kusegDenies_eq_false_iff a).mpr hd
    refine ⟨fun hi hm => ?_, fun hi ha hm => ?_, fun hi ha hm => ?_, fun hi hm => ?_⟩
    · obtain ⟨k, e⟩ := byteLoad hi
      exact e ▸ s.loadAt_bus_error a true [a] k rfl allowed ⟨a, List.mem_singleton_self a, hm⟩
    · obtain ⟨k, e⟩ := halfLoad hi
      exact e ▸ s.loadAt_bus_error a _ _ k ((aligned2_iff a).mpr ha) allowed hm
    · obtain ⟨k, e⟩ := wordLoad hi
      exact e ▸ s.loadAt_bus_error a _ _ k ((aligned4_iff a).mpr ha) allowed hm
    · obtain ⟨k, e⟩ := partLoad hi
      exact e ▸ s.loadAt_bus_error a true _ k rfl allowed hm

/-! Stores. -/

theorem exec_wordStore (s : State) (rt rs : RegIdx) (imm : Half) :
    ∀ i ∈ [Instr.sw rt imm rs, .swc1 rt imm rs], ∃ b,
      exec i s = (s.storeAt (s.ea imm rs) (aligned4 (s.ea imm rs)) (wordSpan (s.ea imm rs)) b).outcome := by
  simp only [List.forall_mem_cons]
  exact ⟨⟨_, rfl⟩, ⟨_, rfl⟩, fun _ h => absurd h List.not_mem_nil⟩

theorem exec_partStore (s : State) (rt rs : RegIdx) (imm : Half) :
    ∀ i ∈ [Instr.swl rt imm rs, .swr rt imm rs], ∃ b,
      exec i s = (s.storeAt (s.ea imm rs) true (wordSpan (alignedWord (s.ea imm rs))) b).outcome := by
  simp only [List.forall_mem_cons]
  exact ⟨⟨_, rfl⟩, ⟨_, rfl⟩, fun _ h => absurd h List.not_mem_nil⟩

/-- The stores of coprocessors 0, 2 and 3 check their alignment before anything else (notes/assumptions 13). -/
theorem exec_coprocessorStore (s : State) (rt rs : RegIdx) (imm : Half) :
    ∀ i ∈ [Instr.swc0 rt imm rs, .swc2 rt imm rs, .swc3 rt imm rs], ∃ k,
      exec i s = (s.ifAligned .addrs (s.ea imm rs) k).outcome := by
  simp only [List.forall_mem_cons]
  exact ⟨⟨_, rfl⟩, ⟨_, rfl⟩, ⟨_, rfl⟩, fun _ h => absurd h List.not_mem_nil⟩

theorem cp0Read_described (s : State) (n : RegIdx) (h : n ∈ [8#5, 12#5, 13#5, 14#5]) : ∃ v, s.cp0Read n = some v := by
  revert n
  simp only [List.forall_mem_cons]
  exact ⟨⟨_, rfl⟩, ⟨_, rfl⟩, ⟨_, rfl⟩, ⟨_, rfl⟩, fun _ h => absurd h List.not_mem_nil⟩

/-- In kernel mode an aligned `swc0` of a register that the spec describes is a word store like the others (R315). -/
theorem exec_swc0_kernel (s : State) (n rs : RegIdx) (imm : Half) (hk : s.userMode = false)
    (hn : n ∈ [8#5, 12#5, 13#5, 14#5]) (ha : (s.ea imm rs).toNat % 4 = 0) : ∃ b, exec (.swc0 n imm rs) s =
      (s.storeAt (s.ea imm rs) (aligned4 (s.ea imm rs)) (wordSpan (s.ea imm rs)) b).outcome := by
  obtain ⟨v, hv⟩ := cp0Read_described s n hn
  refine ⟨wordBytes s.params.bigEndian (s.ea imm rs) v, ?_⟩
  show (opSwc0 n imm rs s).outcome = _
  rw [opSwc0, (s.ifAligned_spec _ _ _).1 ha, s.privileged_kernel _ hk, hv]

/-- Settles O40: every store is a `storeAt` at its address, whose checks come in the order of the clauses; those of
coprocessors 0, 2 and 3 are guarded by the check of the alignment. -/
theorem faultingStoresTrap : Obligations.FaultingStoresTrap := by
  intro s rt rs imm i a denied words coprocessorWords parts
  have wordStore : i ∈ words → _ := exec_wordStore s rt rs imm i
  have partStore : i ∈ parts → _ := exec_partStore s rt rs imm i
  refine ⟨?_, fun hi ha => ?_, fun hi hd => ?_, fun hd => ?_⟩
  · rintro rfl ha
    exact s.storeAt_address_error a _ _ _ (.inl ((aligned2_eq_false_iff a).mpr ha))
  · rcases List.mem_append.mp hi with hi | hi
    · obtain ⟨b, e⟩ := wordStore hi
      exact e ▸ s.storeAt_address_error a _ _ b (.inl ((aligned4_eq_false_iff a).mpr ha))
    · obtain ⟨k, e⟩ := exec_coprocessorStore s rt rs imm i hi
      exact e ▸ (s.ifAligned_spec .addrs a k).2 ha
  · have store : ∃ aligned span b, exec i s = (s.storeAt a aligned span b).outcome := by
      simp only [List.mem_append] at hi
      rcases hi with (hi | hi) | hi
      · rcases List.mem_pair.mp hi with rfl | rfl
        · exact ⟨_, _, _, rfl⟩
        · exact ⟨_, _, _, rfl⟩
      · exact ⟨_, _, wordStore hi⟩
      · exact ⟨_, _, partStore hi⟩
    obtain ⟨aligned, span, b, e⟩ := store
    exact e ▸ s.storeAt_address_error a aligned span b (.inr ((s.kusegDenies_iff a).mpr hd))
  · have allowed : s.kusegDenies a = false := (s.kusegDenies_eq_false_iff a).mpr hd
    refine ⟨?_, ?_, fun hi ha hm => ?_, fun hi hm => ?_⟩
    · rintro rfl hm
      exact s.storeAt_bus_error a true [a] _ rfl allowed ⟨a, List.mem_singleton_self a, hm⟩
    · rintro rfl ha hm
      exact s.storeAt_bus_error a _ _ _ ((aligned2_iff a).mpr ha) allowed hm
    · have store : ∃ b, exec i s = (s.storeAt a (aligned4 a) (wordSpan a) b).outcome := by
        rcases hi with hi | ⟨rfl, hk, hn⟩
        · exact wordStore hi
        · exact exec_swc0_kernel s rt rs imm hk hn ha
      obtain ⟨b, e⟩ := store
      exact e ▸ s.storeAt_bus_error a _ _ b ((aligned4_iff a).mpr ha) allowed hm
    · obtain ⟨b, e⟩ := partStore hi
      exact e ▸ s.storeAt_bus_error a true _ b rfl allowed hm

end Sys2Proof.Machine
end

section
/-! PROOFS. The pseudoinstructions of two words and their exceptions: each word is a word access, and an exception of
the second one is taken in the state that the first has left (R72, R121 d, e, R426). -/

namespace Sys2Proof.Machine

/-! What is left alone, one change after another. -/

theorem SameGpr.trans {s t u : State} (h : SameGpr s t) (k : SameGpr t u) : SameGpr s u :=
  fun r => (k r).trans (h r)

theorem SameHiLo.trans {s t u : State} (h : SameHiLo s t) (k : SameHiLo t u) : SameHiLo s u :=
  ⟨k.1.trans h.1, k.2.trans h.2⟩

theorem SameFp.trans {s t u : State} (h : SameFp s t) (k : SameFp t u) : SameFp s u :=
  ⟨fun r => (k.1 r).trans (h.1 r), k.2.trans h.2⟩

theorem SameMemory.trans {s t u : State} (h : SameMemory s t) (k : SameMemory t u) : SameMemory s u :=
  ⟨fun a => (k.1 a).trans (h.1 a), k.2.trans h.2⟩

theorem GprWritten.trans_same {s t u : State} {r : RegIdx} {v : Word} (h : GprWritten s t r v) (k : SameGpr t u) :
    GprWritten s u r v :=
  fun q => (k q).trans (h q)

theorem FprWritten.trans_same {s t u : State} {r : RegIdx} {v : Word} (h : FprWritten s t r v) (k : SameFp t u) :
    FprWritten s u r v :=
  fun q => (k.1 q).trans (h q)

theorem Remembers.trans_same {s t u : State} {stored : Word → Prop} (h : Remembers s t stored)
    (k : u.storedBytes = t.storedBytes) : Remembers s u stored := by
  rwa [Remembers, k]

/-- What trap entry leaves alone: the registers, memory, and a load in its delay (R425; notes/assumptions 15). -/
def Unmoved (s t : State) : Prop :=
  SameGpr s t ∧ SameHiLo s t ∧ SameFp s t ∧ SameMemory s t ∧ t.loadPending = s.loadPending

/-! Between instructions with nothing pending. -/

theorem State.Settled.inDelaySlot {s : State} (h : s.Settled) : s.inDelaySlot = false := by
  cases hd : s.params.branchDelaySlot with
  | false => exact s.inDelaySlot_of_no_slots hd
  | true => simp [State.inDelaySlot, State.slotTarget, h.1 hd]

theorem State.Settled.gprDelayed {s : State} (h : s.Settled) (r : RegIdx) : s.gprDelayed r = false := by
  cases hd : s.params.loadDelaySlot with
  | false => simp [State.gprDelayed, hd]
  | true => simp [State.gprDelayed, h.2 hd]

/-- A base register reads the same after an instruction that neither writes it nor leaves it in a load's delay. -/
theorem State.Settled.x_eq {s t : State} {r : RegIdx} (h : s.Settled) (slot : readSlot t.gpr r = readSlot s.gpr r)
    (load : ∀ b, t.loadPending ≠ some (.gpr r b)) : t.x r = s.x r := by
  have settled : t.gprDelayed r = false := by
    unfold State.gprDelayed
    split
    · next q b e =>
      have apart : q ≠ r := by
        rintro rfl
        exact load b e
      simp [apart]
    · exact Bool.and_false _
  rw [t.x_of_settled r settled, s.x_of_settled r (h.gprDelayed r), slot]

/-- From a settled state control goes on at the next word (R31). -/
theorem GoesOn.pc_of_settled {s t : State} (h : GoesOn s t) (hs : s.Settled) : t.pc = s.pc + 4#32 := by
  rw [h.2]
  split
  · next hd => rw [hs.1 hd, Option.getD_none]
  · rfl

theorem GoesOn.inDelaySlot {s t : State} (h : GoesOn s t) : t.inDelaySlot = false := by
  simp [State.inDelaySlot, State.slotTarget, h.1]

/-! One word of an expansion. -/

/-- The word `i` is a word access at `a`: it raises the exception that the checks of the address give, and is `k` where
they give none (R280, R310). -/
structure AccessesWord (i : Instr) (s : State) (e : Exc) (a : Word) (k : Effect) : Prop where
  faults : ∀ f, s.dataFault e a (aligned4 a) (wordSpan a) = some f → wordEffect i s = s.raise f a
  passes : s.dataFault e a (aligned4 a) (wordSpan a) = none → wordEffect i s = k

theorem accessesWord_of_load {i : Instr} {s : State} {a : Word} {k : Effect}
    (h : wordEffect i s = s.loadAt a (aligned4 a) (wordSpan a) k) : AccessesWord i s .addrl a k := by
  refine ⟨fun f hf => h.trans ?_, fun hf => h.trans ?_⟩ <;> rw [State.loadAt, hf]

theorem accessesWord_of_store {i : Instr} {s : State} {a : Word} {bytes : List (Word × Byte)}
    (h : wordEffect i s = s.storeAt a (aligned4 a) (wordSpan a) bytes) :
    AccessesWord i s .addrs a (.done (s.storeAll bytes).retire) := by
  refine ⟨fun f hf => h.trans ?_, fun hf => h.trans ?_⟩ <;> rw [State.storeAt, hf]

/-- The exception of a word access is trap entry with the code and the `BadVAddr` of `wordFault`. -/
theorem AccessesWord.traps {i : Instr} {s : State} {e : Exc} {a : Word} {k : Effect} {fault : BitVec 4 × Word}
    (h : AccessesWord i s e a k) (he : e.recordsAddress = true) (hf : s.wordFault e.code a = some fault) :
    ∃ t, wordEffect i s = .trap t ∧ Traps (.next t) s fault.1 fault.2 := by
  rw [s.wordFault_eq e a he, Option.map_eq_some_iff] at hf
  obtain ⟨f, hf, rfl⟩ := hf
  exact ⟨_, h.faults f hf, s.raise_spec f a⟩

theorem AccessesWord.completes {i : Instr} {s : State} {e : Exc} {a : Word} {k : Effect} (h : AccessesWord i s e a k)
    (he : e.recordsAddress = true) (hf : s.wordFault e.code a = none) : wordEffect i s = k := by
  rw [s.wordFault_eq e a he, Option.map_eq_none_iff] at hf
  exact h.passes hf

/-- The exception of an address depends on the parameters, the mode and what `BadVAddr` holds alone. -/
theorem State.wordFault_congr {s t : State} (h : SameSystem s t) (code : BitVec 4) (a : Word) :
    t.wordFault code a = s.wordFault code a := by
  obtain ⟨params, status, -, -, -, badVAddr, -, -⟩ := h
  have mapped : t.mapped = s.mapped := by
    funext p
    rw [State.mapped, params, State.mapped]
  have userMode : t.userMode = s.userMode := by
    rw [State.userMode, status, State.userMode]
  unfold State.wordFault
  rw [params, userMode, mapped, badVAddr]

/-! The second address. -/

/-- Where the second offset fits 16 bits, it extends to the first plus 4 (R121). -/
theorem signImm_add_four (k : Half) (h : offsetFits k 4 = true) : signImm (k + 4#16) = signImm k + 4#32 := by
  have fits : k.toInt + 4 ≤ 32767 := by simpa [offsetFits] using h
  have low : -32768 ≤ k.toInt := k.le_toInt
  have sum : (k + 4#16).toInt = k.toInt + 4 := by
    rw [BitVec.toInt_add, show (4#16).toInt = 4 by decide]
    exact Int.bmod_eq_of_le (by omega) (by omega)
  calc signImm (k + 4#16) = BitVec.ofInt 32 (k + 4#16).toInt := rfl
    _ = BitVec.ofInt 32 (k.toInt + 4) := by rw [sum]
    _ = signImm k + 4#32 := BitVec.ofInt_add _ _

theorem ea_add_four {s t : State} {k : Half} {base : RegIdx} (h : offsetFits k 4 = true) (hx : t.x base = s.x base) :
    t.ea (k + 4#16) base = s.ea k base + 4#32 := by
  rw [State.ea, State.ea, signImm_add_four k h, hx, BitVec.add_assoc]

/-! Two words. -/

/-- A trap taken after `k` words, in the state `t` that they have left, is the pseudoinstruction's (R121 d, e). -/
theorem pseudoFaults_of_traps {i : Instr} {s t u : State} {fault : BitVec 4 × Word} {k : Nat} {done : State → Prop}
    (he : exec i s = .next u) (ht : Traps (.next u) t fault.1 fault.2) (hs : SameSystem s t)
    (slot : t.inDelaySlot = false) (hpc : t.pc = s.pc + BitVec.ofNat 32 (4 * k)) (hd : ∀ u, Unmoved t u → done u) :
    PseudoFaults i s fault k done := by
  obtain ⟨_, ⟨⟩, code, bad, pc, epc, bd, stack, gpr, hiLo, fp, memory, par, lines, schedule, target, load⟩ := ht
  obtain ⟨params, status, -, -, -, -, intLines, intSchedule⟩ := hs
  refine ⟨u, he, code, bad, params ▸ pc, ?_, slot ▸ bd, status ▸ stack, hd u ⟨gpr, hiLo, fp, memory, load⟩,
    par.trans params, lines.trans intLines, schedule.trans intSchedule, target⟩
  rw [epc, slot, if_neg Bool.false_ne_true, hpc]

/-- The pseudoinstruction `i` is the two words `w₁` and `w₂` on the machine of `s`, and a trap inside it leaves no
scratch register behind (R121). -/
structure TwoWords (i : Instr) (s : State) (w₁ w₂ : Instr) : Prop where
  pseudo : i.isPseudo = true
  wf : wellFormed i = true
  words : expand s.params.bigEndian s.params.branchDelaySlot i = [w₁, w₂]
  noScratch : ∀ t : State, t.trappedPseudo i = t

theorem TwoWords.exec_eq {i w₁ w₂ : Instr} {s : State} (h : TwoWords i s w₁ w₂) {t : State}
    (ht : runWords 2 [w₁, w₂] s = .trap t) : exec i s = .next t := by
  rw [exec_of_isPseudo i s h.pseudo, runPseudo_eq i s h.wf, h.words]
  simp only [List.length_cons, List.length_nil, Nat.zero_add, Nat.reduceAdd, ht, h.noScratch]
  rfl

/-- The pseudoinstruction takes the exceptions of each of its words, at `a` and at `a + 4`: one of the first leaves
nothing done, one of the second what `done` says (R72, R121 d, e). -/
def FaultsByWord (i : Instr) (s : State) (addressError : BitVec 4) (a : Word) (fault : BitVec 4 × Word)
    (done : State → Prop) : Prop :=
  (s.wordFault addressError a = some fault → PseudoFaults i s fault 0 (Unmoved s)) ∧
    (s.wordFault addressError a = none → s.wordFault addressError (a + 4#32) = some fault →
      PseudoFaults i s fault 1 done)

/-- Each of two words takes its own exceptions: one of the first leaves nothing done, one of the second what the first
has done, in the state `t` (R72, R121 e, R426). -/
theorem TwoWords.faults {i w₁ w₂ : Instr} {s t : State} {e : Exc} {k : Half} {base : RegIdx} {last : Effect}
    {done : State → Prop} (h : TwoWords i s w₁ w₂) (he : e.recordsAddress = true) (hs : s.Settled)
    (fits : offsetFits k 4 = true) (first : AccessesWord w₁ s e (s.ea k base) (.done t))
    (second : AccessesWord w₂ t e (t.ea (k + 4#16) base) last) (hx : t.x base = s.x base) (system : SameSystem s t)
    (goesOn : GoesOn s t) (hd : ∀ u, Unmoved t u → done u) (fault : BitVec 4 × Word) :
    FaultsByWord i s e.code (s.ea k base) fault done := by
  refine ⟨fun hf => ?_, fun hn hf => ?_⟩
  · obtain ⟨u, hu, traps⟩ := first.traps he hf
    exact pseudoFaults_of_traps (h.exec_eq (runWords_trap _ _ _ _ _ hu)) traps (.refl s) hs.inDelaySlot
      (BitVec.add_zero _).symm fun _ => id
  · rw [← ea_add_four fits hx, ← State.wordFault_congr system] at hf
    obtain ⟨u, hu, traps⟩ := second.traps he hf
    have hpc := goesOn.pc_of_settled hs
    have run : runWords 2 [w₁, w₂] s = .trap u :=
      (runWords_next _ _ _ _ _ (first.completes he hn) hpc).trans (runWords_trap _ _ _ _ _ hu)
    exact pseudoFaults_of_traps (h.exec_eq run) traps system goesOn.inDelaySlot hpc hd

/-! The four pseudoinstructions: what their first words leave, and the exceptions. -/

theorem accessesWord_lw (s : State) (rt rs : RegIdx) (imm : Half) : AccessesWord (.lw rt imm rs) s .addrl (s.ea imm rs)
    (.done ((s.setX rt (s.word (s.ea imm rs))).retireLoad (.gpr rt false))) :=
  accessesWord_of_load rfl

theorem accessesWord_lwc1 (s : State) (rt rs : RegIdx) (imm : Half) :
    AccessesWord (.lwc1 rt imm rs) s .addrl (s.ea imm rs)
      (.done ((s.setF rt (s.word (s.ea imm rs))).retireLoad (.fpr rt))) :=
  accessesWord_of_load rfl

/-- The state after an instruction that has stored the word `v` at `a` and done nothing else (R66, R310). -/
def State.storedAt (s : State) (a v : Word) : State := (s.storeAll (wordBytes s.params.bigEndian a v)).retire

theorem accessesWord_sw (s : State) (rt rs : RegIdx) (imm : Half) :
    AccessesWord (.sw rt imm rs) s .addrs (s.ea imm rs) (.done (s.storedAt (s.ea imm rs) (s.x rt))) :=
  accessesWord_of_store rfl

theorem accessesWord_swc1 (s : State) (rt rs : RegIdx) (imm : Half) :
    AccessesWord (.swc1 rt imm rs) s .addrs (s.ea imm rs) (.done (s.storedAt (s.ea imm rs) (s.f rt))) :=
  accessesWord_of_store rfl

/-- The base of `ld` is not its first register, so the second address does not depend on the first load (R121, R285). -/
theorem ld_faults (s : State) (r base : RegIdx) (k : Half) (fault : BitVec 4 × Word) (hs : s.Settled)
    (hw : wellFormed (.pLd r k base) = true) :
    FaultsByWord (.pLd r k base) s 4#4 (s.ea k base) fault fun u =>
      GprWritten s u r (s.word (s.ea k base)) ∧ SameHiLo s u ∧ SameFp s u ∧ SameMemory s u ∧
        u.loadPending = if s.params.loadDelaySlot = true then some (.gpr r false) else none := by
  have words : TwoWords (.pLd r k base) s (.lw r k base) (.lw (r + 1#5) (k + 4#16) base) :=
    ⟨rfl, hw, rfl, fun _ => rfl⟩
  simp only [wellFormed, Bool.and_eq_true, bne_iff_ne] at hw
  obtain ⟨⟨-, apart⟩, fits⟩ := hw
  obtain ⟨_, ⟨⟩, gpr, hiLo, fp, memory, system, goesOn, load⟩ :=
    s.setX_retireLoad_spec r (s.word (s.ea k base)) false
  refine words.faults rfl hs fits (accessesWord_lw s r base k) (accessesWord_lw _ (r + 1#5) base _) ?_ system goesOn
    (fun u ⟨gpr', hiLo', fp', memory', load'⟩ => ⟨gpr.trans_same gpr', hiLo.trans hiLo', fp.trans fp',
      memory.trans memory', load'.trans load⟩) fault
  refine hs.x_eq ?_ fun b e => ?_
  · exact (gpr base).trans (if_neg fun e => apart e.1.symm)
  · rw [load] at e
    split at e <;> simp [apart] at e

/-- Which register `l.d` loads first depends on the byte order (R371). -/
theorem loadD_faults (s : State) (r base : RegIdx) (k : Half) (fault : BitVec 4 × Word) (hs : s.Settled)
    (hw : wellFormed (.pLoadD r k base) = true) (first : RegIdx)
    (hfirst : first = if s.params.bigEndian = true then r + 1#5 else r) :
    FaultsByWord (.pLoadD r k base) s 4#4 (s.ea k base) fault fun u =>
      FprWritten s u first (s.word (s.ea k base)) ∧ u.cc1 = s.cc1 ∧ SameGpr s u ∧ SameHiLo s u ∧ SameMemory s u ∧
        u.loadPending = if s.params.loadDelaySlot = true then some (.fpr first) else none := by
  have words : TwoWords (.pLoadD r k base) s (.lwc1 first k base)
      (.lwc1 (if s.params.bigEndian = true then r else r + 1#5) (k + 4#16) base) :=
    ⟨rfl, hw, hfirst ▸ rfl, fun _ => rfl⟩
  simp only [wellFormed, Bool.and_eq_true] at hw
  obtain ⟨-, fits⟩ := hw
  obtain ⟨_, ⟨⟩, fpr, flag, gpr, hiLo, memory, system, goesOn, load⟩ :=
    s.setF_retireLoad_spec first (s.word (s.ea k base))
  refine words.faults rfl hs fits (accessesWord_lwc1 s first base k) (accessesWord_lwc1 _ _ base _) ?_ system goesOn
    (fun u ⟨gpr', hiLo', fp', memory', load'⟩ => ⟨fpr.trans_same fp', fp'.2.trans flag, gpr.trans gpr',
      hiLo.trans hiLo', memory.trans memory', load'.trans load⟩) fault
  refine hs.x_eq (gpr base) fun b e => ?_
  rw [load] at e
  split at e <;> cases e

/-- `sd` and `s.d` alike: their first word stores `v` (R312, R379). -/
theorem TwoWords.store_faults {i w₁ w₂ : Instr} {s : State} {k : Half} {base : RegIdx} {v : Word} {last : Effect}
    (h : TwoWords i s w₁ w₂) (hs : s.Settled) (fits : offsetFits k 4 = true)
    (first : AccessesWord w₁ s .addrs (s.ea k base) (.done (s.storedAt (s.ea k base) v)))
    (second : AccessesWord w₂ (s.storedAt (s.ea k base) v) .addrs
      ((s.storedAt (s.ea k base) v).ea (k + 4#16) base) last) (fault : BitVec 4 × Word) :
    FaultsByWord i s 5#4 (s.ea k base) fault fun u => SameGpr s u ∧ SameHiLo s u ∧ SameFp s u ∧
      (∀ p, u.byte p = (storedWord s.params.bigEndian (s.ea k base) v p).getD (s.byte p)) ∧
      Remembers s u (fun p => (storedWord s.params.bigEndian (s.ea k base) v p).isSome = true) ∧
      u.loadPending = none := by
  have remembers := s.remembers_storeAll (wordBytes s.params.bigEndian (s.ea k base) v)
    (fun p => (storedWord s.params.bigEndian (s.ea k base) v p).isSome = true)
    fun p => by rw [wordBytes_addresses, storedWord_isSome]
  refine h.faults rfl hs fits first second (hs.x_eq rfl fun _ => nofun) ⟨rfl, rfl, rfl, rfl, rfl, rfl, rfl, rfl⟩
    (s.goesOn_retireWith (s.storeAll _) none rfl rfl rfl)
    (fun u ⟨gpr, hiLo, fp, memory, load⟩ => ⟨gpr, hiLo, fp, fun p => ?_, remembers.trans_same memory.2, load⟩) fault
  exact (memory.1 p).trans (s.byte_storeAll_wordBytes _ _ v p)

/-- Settles O42: the four pseudoinstructions are two word accesses each, at an address and at the address 4 above it. -/
theorem doubleWordsFaultByWord : Obligations.DoubleWordsFaultByWord := by
  intro s r base k fault hs a b big loads stores unmoved stored delayed first
  refine ⟨ld_faults s r base k fault hs, fun hw => ?_, fun hw => loadD_faults s r base k fault hs hw first rfl,
    fun hw => ?_⟩
  · have words : TwoWords (.pSd r k base) s (.sw r k base) (.sw (r + 1#5) (k + 4#16) base) :=
      ⟨rfl, hw, rfl, fun _ => rfl⟩
    simp only [wellFormed, Bool.and_eq_true] at hw
    exact words.store_faults hs hw.2 (accessesWord_sw s r base k) (accessesWord_sw _ (r + 1#5) base _) fault
  · have words : TwoWords (.pStoreD r k base) s (.swc1 first k base)
        (.swc1 (if big = true then r else r + 1#5) (k + 4#16) base) := ⟨rfl, hw, rfl, fun _ => rfl⟩
    simp only [wellFormed, Bool.and_eq_true] at hw
    exact words.store_faults hs hw.2 (accessesWord_swc1 s first base k) (accessesWord_swc1 _ _ base _) fault

end Sys2Proof.Machine
end

section
/-! PROOFS. Words and instructions: the formats of a word, the word of a bare instruction decodes to it, and no other
word does (R101 to R104, R111, R113). -/

namespace Sys2Proof
open Machine (iWord iWord_fields)

/-! The formats of a word: its fields, and a word as the fields it has. -/

/-- A word of the register format; the coprocessor moves and the floating point operations have their fields at the
same places (R101, R104). -/
def regWord (op : BitVec 6) (rs rt rd : RegIdx) (sh : BitVec 5) (fn : BitVec 6) : Word :=
  op ++ rs ++ rt ++ rd ++ sh ++ fn

/-- A word of the jump format (R103). -/
def jumpWord (op : BitVec 6) (target : BitVec 26) : Word := op ++ target

/-- A word of `syscall` or `break` (R109). -/
def codeWord (code : BitVec 20) (fn : BitVec 6) : Word := 0#6 ++ code ++ fn

theorem regWord_fields (op : BitVec 6) (rs rt rd : RegIdx) (sh : BitVec 5) (fn : BitVec 6) :
    fieldOp (regWord op rs rt rd sh fn) = op ∧ fieldRs (regWord op rs rt rd sh fn) = rs ∧
      fieldRt (regWord op rs rt rd sh fn) = rt ∧ fieldRd (regWord op rs rt rd sh fn) = rd ∧
      fieldShamt (regWord op rs rt rd sh fn) = sh ∧ fieldFunct (regWord op rs rt rd sh fn) = fn ∧
      fieldLow11 (regWord op rs rt rd sh fn) = sh ++ fn := by
  unfold regWord fieldOp fieldRs fieldRt fieldRd fieldShamt fieldFunct fieldLow11
  refine ⟨?_, ?_, ?_, ?_, ?_, BitVec.extractLsb'_append_eq_right, ?_⟩
  · iterate 4 rw [BitVec.extractLsb'_append_eq_of_le (by decide)]
    exact BitVec.extractLsb'_append_eq_left
  · iterate 4 rw [BitVec.extractLsb'_append_eq_of_le (by decide)]
    exact BitVec.extractLsb'_append_eq_right
  · iterate 3 rw [BitVec.extractLsb'_append_eq_of_le (by decide)]
    exact BitVec.extractLsb'_append_eq_right
  · iterate 2 rw [BitVec.extractLsb'_append_eq_of_le (by decide)]
    exact BitVec.extractLsb'_append_eq_right
  · rw [BitVec.extractLsb'_append_eq_of_le (by decide)]
    exact BitVec.extractLsb'_append_eq_right
  · rw [BitVec.append_assoc]
    exact BitVec.extractLsb'_append_eq_right

theorem jumpWord_fields (op : BitVec 6) (target : BitVec 26) :
    fieldOp (jumpWord op target) = op ∧ fieldTarget (jumpWord op target) = target :=
  ⟨BitVec.extractLsb'_append_eq_left, BitVec.extractLsb'_append_eq_right⟩

theorem codeWord_fields (code : BitVec 20) (fn : BitVec 6) :
    fieldOp (codeWord code fn) = 0#6 ∧ fieldCode (codeWord code fn) = code ∧ fieldFunct (codeWord code fn) = fn := by
  unfold codeWord fieldOp fieldCode fieldFunct
  refine ⟨?_, ?_, BitVec.extractLsb'_append_eq_right⟩
  · rw [BitVec.extractLsb'_append_eq_of_le (by decide)]
    exact BitVec.extractLsb'_append_eq_left
  · rw [BitVec.extractLsb'_append_eq_of_le (by decide)]
    exact BitVec.extractLsb'_append_eq_right

theorem regWord_of_fields (w : Word) :
    regWord (fieldOp w) (fieldRs w) (fieldRt w) (fieldRd w) (fieldShamt w) (fieldFunct w) = w := by
  unfold regWord fieldOp fieldRs fieldRt fieldRd fieldShamt fieldFunct
  iterate 5 rw [BitVec.extractLsb'_append_extractLsb'_eq_extractLsb' (by decide)]
  exact BitVec.extractLsb'_eq_self

theorem iWord_of_fields (w : Word) : iWord (fieldOp w) (fieldRs w) (fieldRt w) (fieldImm w) = w := by
  unfold iWord fieldOp fieldRs fieldRt fieldImm
  iterate 3 rw [BitVec.extractLsb'_append_extractLsb'_eq_extractLsb' (by decide)]
  exact BitVec.extractLsb'_eq_self

theorem jumpWord_of_fields (w : Word) : jumpWord (fieldOp w) (fieldTarget w) = w := by
  unfold jumpWord fieldOp fieldTarget
  rw [BitVec.extractLsb'_append_extractLsb'_eq_extractLsb' (by decide)]
  exact BitVec.extractLsb'_eq_self

theorem codeWord_of_fields (w : Word) (h : fieldOp w = 0#6) : codeWord (fieldCode w) (fieldFunct w) = w := by
  rw [codeWord, ← h]
  unfold fieldOp fieldCode fieldFunct
  iterate 2 rw [BitVec.extractLsb'_append_extractLsb'_eq_extractLsb' (by decide)]
  exact BitVec.extractLsb'_eq_self

theorem exists_regWord (w : Word) {op : BitVec 6} (h : fieldOp w = op) :
    ∃ rs rt rd sh fn, w = regWord op rs rt rd sh fn :=
  ⟨_, _, _, _, _, h ▸ (regWord_of_fields w).symm⟩

theorem exists_iWord (w : Word) {op : BitVec 6} (h : fieldOp w = op) : ∃ rs rt imm, w = iWord op rs rt imm :=
  ⟨_, _, _, h ▸ (iWord_of_fields w).symm⟩

theorem append_eq_zero_iff {n m : Nat} (a : BitVec n) (b : BitVec m) :
    a ++ b = 0#(n + m) ↔ a = 0#n ∧ b = 0#m := by
  refine ⟨fun h => ⟨?_, ?_⟩, ?_⟩
  · calc a = (a ++ b).extractLsb' m n := BitVec.extractLsb'_append_eq_left.symm
      _ = 0#n := by rw [h, BitVec.extractLsb'_zero]
  · calc b = (a ++ b).extractLsb' 0 m := BitVec.extractLsb'_append_eq_right.symm
      _ = 0#m := by rw [h, BitVec.extractLsb'_zero]
  · rintro ⟨rfl, rfl⟩
    exact BitVec.zero_append_zero

/-! Decoding an encoding. -/

/-- The bare instructions are those that have a word (R111, R120). -/
theorem encodeWord_isSome (i : Instr) : (encodeWord i).isSome = !i.isPseudo := by
  cases i <;> rfl

/-- The word of an instruction decodes to it: the fields of its format are what its row tests and reads (R111). -/
theorem decodeWord_of_encodeWord {i : Instr} {w : Word} (h : encodeWord i = some w) : decodeWord w = .instr i := by
  cases i with
  | sll | srl | sra | sllv | srlv | srav | jr | jalr | mfhi | mthi | mflo | mtlo | mult | multu | div | divu
  | add | addu | sub | subu | and | or | xor | nor | slt | sltu =>
    cases h
    show decodeWord (regWord _ _ _ _ _ _) = _
    simp [decodeWord, decodeSpecial, strictly, regWord_fields]
  | syscall | brk =>
    cases h
    show decodeWord (codeWord _ _) = _
    simp [decodeWord, decodeSpecial, codeWord_fields]
  | j | jal =>
    cases h
    show decodeWord (jumpWord _ _) = _
    simp [decodeWord, jumpWord_fields]
  | bltz | bgez | bltzal | bgezal =>
    cases h
    show decodeWord (iWord _ _ _ _) = _
    simp [decodeWord, decodeRegimm, iWord_fields]
  | beq | bne | blez | bgtz | addi | addiu | slti | sltiu | andi | ori | xori | lui | lb | lh | lwl | lw | lbu | lhu
  | lwr | sb | sh | swl | sw | swr | lwc0 | lwc1 | lwc2 | lwc3 | swc0 | swc1 | swc2 | swc3 =>
    cases h
    show decodeWord (iWord _ _ _ _) = _
    simp [decodeWord, strictly, iWord_fields]
  | bc0f | bc1f | bc2f | bc3f | bc0t | bc1t | bc2t | bc3t =>
    cases h
    show decodeWord (iWord _ _ _ _) = _
    simp [decodeWord, decodeCop, iWord_fields]
  | mfc0 | mfc1 | mfc2 | mfc3 | mtc0 | mtc1 | mtc2 | mtc3 =>
    cases h
    show decodeWord (regWord _ _ _ _ _ _) = _
    simp [decodeWord, decodeCop, strictly, regWord_fields]
  | rfe =>
    cases h
    rfl
  | addS | subS | mulS | divS | absS | movS | negS | cvtDS | cvtWS | cEqS | cLtS | cLeS =>
    cases h
    show decodeWord (regWord _ _ _ _ _ _) = _
    simp [decodeWord, decodeCop, decodeCop1Op, unlistedCompare, decodeFpSingle, strictly, regWord_fields]
  | addD | subD | mulD | divD | absD | movD | negD | cvtSD | cvtWD | cEqD | cLtD | cLeD =>
    cases h
    show decodeWord (regWord _ _ _ _ _ _) = _
    simp [decodeWord, decodeCop, decodeCop1Op, unlistedCompare, decodeFpDouble, strictly, regWord_fields]
  | cvtSW | cvtDW =>
    cases h
    show decodeWord (regWord _ _ _ _ _ _) = _
    simp [decodeWord, decodeCop, decodeCop1Op, unlistedCompare, decodeFpWord, strictly, regWord_fields]
  | _ => cases h

/-! Encoding a decoded instruction, one opcode map after another. -/

/-- What the decoder has answered for the word `w`, if it is an instruction, is one whose word is `w` (R111). -/
def Encodes (w : Word) (d : Decoded) : Prop := ∀ i, d = .instr i → encodeWord i = some w

theorem encodes_instr_iff (w : Word) (i : Instr) : Encodes w (.instr i) ↔ encodeWord i = some w := by
  refine ⟨fun h => h i rfl, ?_⟩
  rintro h _ ⟨⟩
  exact h

/-- A row that wants bits zero is read only from a word that has them zero (R113 b). -/
theorem encodes_strictly_iff (w : Word) (zero : Bool) (i : Instr) :
    Encodes w (strictly zero i) ↔ (zero = true → encodeWord i = some w) := by
  cases zero with
  | false => simp [strictly, Encodes]
  | true => simp [strictly, encodes_instr_iff]

theorem encodes_reserved (w : Word) : Encodes w .reserved := by simp [Encodes]

theorem encodes_unlisted (w : Word) : Encodes w .unlisted := by simp [Encodes]

theorem encodes_decodeSpecial (w : Word) (h : fieldOp w = 0#6) : Encodes w (decodeSpecial w) := by
  have coded := codeWord_of_fields w h
  obtain ⟨rs, rt, rd, sh, fn, rfl⟩ := exists_regWord w h
  simp only [decodeSpecial, regWord_fields] at coded ⊢
  split
  case h_29 => exact encodes_reserved _
  case h_9 e | h_10 e => -- syscall, break: one field of 20 bits
    obtain ⟨-, rfl⟩ := BitVec.toNat_eq_nat.mp e
    exact (encodes_instr_iff _ _).mpr (congrArg some coded)
  all_goals
    rename_i e
    obtain ⟨-, rfl⟩ := BitVec.toNat_eq_nat.mp e
    simp only [encodes_strictly_iff, Bool.and_eq_true, beq_iff_eq, and_imp]
    intros
    subst_vars
    rfl

theorem encodes_decodeRegimm (w : Word) (h : fieldOp w = 1#6) : Encodes w (decodeRegimm w) := by
  obtain ⟨rs, rt, imm, rfl⟩ := exists_iWord w h
  simp only [decodeRegimm, iWord_fields]
  split
  case h_5 => exact encodes_reserved _
  all_goals
    rename_i e
    obtain ⟨-, rfl⟩ := BitVec.toNat_eq_nat.mp e
    exact (encodes_instr_iff _ _).mpr rfl

/-- The one coprocessor operation of coprocessor 0 is the one word of `rfe` (R104, R400). -/
theorem encodes_decodeCop0Op (w : Word) (h : fieldOp w = 0x10#6) (operation : 0x10 ≤ (fieldRs w).toNat) :
    Encodes w (decodeCop0Op w) := by
  unfold decodeCop0Op
  split
  case h_1 e =>
    rw [encodes_strictly_iff, beq_iff_eq]
    intro zero
    have word : w = 0x42000010#32 := by
      simp only [← BitVec.toNat_inj, fieldOp, fieldRs, fieldFunct, BitVec.extractLsb'_toNat,
        Nat.shiftRight_eq_div_pow, BitVec.toNat_ofNat] at *
      omega
    rw [word]
    rfl
  case h_2 | h_3 | h_4 | h_5 => exact encodes_unlisted w
  case h_6 => exact encodes_reserved w

/-- The format is read first, then the place in the map of that format (R104). -/
theorem encodes_decodeCop1Op (w : Word) (h : fieldOp w = 0x11#6) : Encodes w (decodeCop1Op w) := by
  obtain ⟨rs, rt, rd, sh, fn, rfl⟩ := exists_regWord w h
  simp only [decodeCop1Op, decodeFpSingle, decodeFpDouble, decodeFpWord, regWord_fields]
  split
  · exact encodes_unlisted _
  split
  case h_4 => exact encodes_reserved _
  all_goals
    rename_i format
    obtain ⟨-, rfl⟩ := BitVec.toNat_eq_nat.mp format
    split
  all_goals simp only [encodes_reserved, encodes_instr_iff, encodes_strictly_iff, beq_iff_eq]
  all_goals
    rename_i e
    obtain ⟨-, rfl⟩ := BitVec.toNat_eq_nat.mp e
    intros
    subst_vars
    rfl

/-- The rows of a coprocessor are those of its primary opcode (R104). -/
structure CopRows.At (c : CopRows) (op : BitVec 6) : Prop where
  mfc : ∀ rt rd, encodeWord (c.mfc rt rd) = some (regWord op 0#5 rt rd 0#5 0#6)
  mtc : ∀ rt rd, encodeWord (c.mtc rt rd) = some (regWord op 4#5 rt rd 0#5 0#6)
  bcf : ∀ imm, encodeWord (c.bcf imm) = some (iWord op 8#5 0#5 imm)
  bct : ∀ imm, encodeWord (c.bct imm) = some (iWord op 8#5 1#5 imm)
  op : ∀ w, fieldOp w = op → 0x10 ≤ (fieldRs w).toNat → Encodes w (c.op w)

/-- A coprocessor move is read only from a word whose bits 10:0 are zero (R104; notes/assumptions 14). -/
theorem encodes_move (w : Word) (rs : RegIdx) (i : Instr) (hrs : fieldRs w = rs)
    (enc : encodeWord i = some (regWord (fieldOp w) rs (fieldRt w) (fieldRd w) 0#5 0#6)) :
    Encodes w (strictly (fieldLow11 w == 0#11) i) := by
  obtain ⟨_, rt, rd, sh, fn, e⟩ := exists_regWord w rfl
  rw [e] at hrs enc ⊢
  simp only [regWord_fields, encodes_strictly_iff, beq_iff_eq] at hrs enc ⊢
  intro zero
  obtain ⟨rfl, rfl⟩ := (append_eq_zero_iff sh fn).mp zero
  exact hrs ▸ enc

theorem encodes_decodeCop (c : CopRows) (w : Word) (h : c.At (fieldOp w)) : Encodes w (decodeCop c w) := by
  unfold decodeCop
  split
  case h_1 e => exact encodes_move w 0#5 _ (BitVec.eq_of_toNat_eq e) (h.mfc _ _)
  case h_2 e => exact encodes_move w 4#5 _ (BitVec.eq_of_toNat_eq e) (h.mtc _ _)
  case h_3 | h_4 => exact encodes_unlisted _
  case h_5 e =>
    have word := iWord_of_fields w
    rw [show fieldRs w = 8#5 from BitVec.eq_of_toNat_eq e] at word
    split
    case h_3 => exact encodes_reserved _
    case h_1 e =>
      rw [show fieldRt w = 0#5 from BitVec.eq_of_toNat_eq e] at word
      exact (encodes_instr_iff _ _).mpr ((h.bcf _).trans (congrArg some word))
    case h_2 e =>
      rw [show fieldRt w = 1#5 from BitVec.eq_of_toNat_eq e] at word
      exact (encodes_instr_iff _ _).mpr ((h.bct _).trans (congrArg some word))
  · split_ifs with operation
    · exact h.op w rfl operation
    · exact encodes_reserved _

/-- A word that decodes to an instruction is that instruction's word; the rows that remain after the maps are those of
the immediate format (R102, R111). -/
theorem encodes_decodeWord (w : Word) : Encodes w (decodeWord w) := by
  unfold decodeWord
  split
  case h_1 e => exact encodes_decodeSpecial w (BitVec.eq_of_toNat_eq e)
  case h_2 e => exact encodes_decodeRegimm w (BitVec.eq_of_toNat_eq e)
  case h_3 e | h_4 e => -- j, jal
    have word := jumpWord_of_fields w
    rw [(BitVec.toNat_eq_nat.mp e).2] at word
    exact (encodes_instr_iff _ _).mpr (congrArg some word)
  case h_17 e => -- coprocessor 0
    refine encodes_decodeCop _ w ?_
    rw [(BitVec.toNat_eq_nat.mp e).2]
    exact ⟨fun _ _ => rfl, fun _ _ => rfl, fun _ => rfl, fun _ => rfl, encodes_decodeCop0Op⟩
  case h_18 e => -- coprocessor 1
    refine encodes_decodeCop _ w ?_
    rw [(BitVec.toNat_eq_nat.mp e).2]
    exact ⟨fun _ _ => rfl, fun _ _ => rfl, fun _ => rfl, fun _ => rfl, fun w h _ => encodes_decodeCop1Op w h⟩
  case h_19 e | h_20 e => -- coprocessors 2 and 3
    refine encodes_decodeCop _ w ?_
    rw [(BitVec.toNat_eq_nat.mp e).2]
    exact ⟨fun _ _ => rfl, fun _ _ => rfl, fun _ => rfl, fun _ => rfl, fun w _ _ => encodes_unlisted w⟩
  case h_41 => exact encodes_reserved _
  all_goals
    rename_i e
    obtain ⟨rs, rt, imm, rfl⟩ := exists_iWord w (BitVec.toNat_eq_nat.mp e).2
    simp only [iWord_fields, encodes_instr_iff, encodes_strictly_iff, beq_iff_eq]
    intros
    subst_vars
    rfl

/-- Settles O2: a bare instruction has a word, and each field of a word in its format is where the decoder reads it. -/
theorem decodeOfEncodeIsIdentity : Obligations.DecodeOfEncodeIsIdentity := by
  intro i bare
  have word : (encodeWord i).isSome = true := by rw [encodeWord_isSome, bare]; rfl
  obtain ⟨w, h⟩ := Option.isSome_iff_exists.mp word
  exact ⟨w, h, decodeWord_of_encodeWord h⟩

/-- Settles O3: every opcode map answers only with encodings, and an instruction with a word is bare. -/
theorem encodeOfDecodeIsIdentity : Obligations.EncodeOfDecodeIsIdentity := by
  intro w i h
  have word := encodes_decodeWord w i h
  have bare := encodeWord_isSome i
  rw [word] at bare
  exact ⟨by simpa using bare.symm, word⟩

end Sys2Proof
end

section
/-! PROOFS. The words of no instruction, in bits: which the decoder refuses, which are reserved, and what a step makes
of them (R101, R104, R110 to R113). -/

namespace Sys2Proof

/-! Bits of a word that lie across its fields, or inside one. -/

theorem extractLsb'_add_eq_zero_iff {w : Nat} (x : BitVec w) (start n m : Nat) :
    x.extractLsb' start (n + m) = 0#(n + m) ↔ x.extractLsb' (start + m) n = 0#n ∧ x.extractLsb' start m = 0#m := by
  rw [← BitVec.extractLsb'_append_extractLsb'_eq_extractLsb' rfl, append_eq_zero_iff]

theorem extractLsb'_of_extractLsb' {w : Nat} (x : BitVec w) (start len s n : Nat) (h : s + n ≤ len) :
    x.extractLsb' (start + s) n = (x.extractLsb' start len).extractLsb' s n := by
  refine BitVec.eq_of_getLsbD_eq fun i hi => ?_
  have inside : s + i < len := by omega
  simp [hi, inside, Nat.add_assoc]

/-- The four primary opcodes of the coprocessors begin alike (R104). -/
theorem coprocessor_iff (w : Word) :
    w.extractLsb' 28 4 = 0b0100#4 ↔
      fieldOp w = 0x10#6 ∨ fieldOp w = 0x11#6 ∨ fieldOp w = 0x12#6 ∨ fieldOp w = 0x13#6 := by
  have upper : w.extractLsb' 28 4 = (fieldOp w).extractLsb' 2 4 := extractLsb'_of_extractLsb' w 26 6 2 4 (by decide)
  rw [upper]
  generalize fieldOp w = op
  revert op
  decide

/-- Bit 25 tells the operations of a coprocessor from its moves and branches (R104). -/
theorem operation_iff (w : Word) : w.getLsbD 25 = true ↔ 0x10 ≤ (fieldRs w).toNat := by
  have top : w.getLsbD 25 = (fieldRs w).msb := by simp [fieldRs, BitVec.msb_eq_getLsbD_last]
  rw [top, BitVec.msb_eq_decide, decide_eq_true_eq]

/-- The comparisons that the source does not list, in bits (R113 a). -/
theorem unlistedCompare_iff (w : Word) :
    unlistedCompare (fieldFunct w).toNat = true ↔
      w.extractLsb' 4 2 = 0b11#2 ∧ fieldFunct w ∉ [0x32#6, 0x3c#6, 0x3e#6] := by
  have upper : w.extractLsb' 4 2 = (fieldFunct w).extractLsb' 4 2 := extractLsb'_of_extractLsb' w 0 6 4 2 (by decide)
  rw [upper]
  generalize fieldFunct w = fn
  revert fn
  decide

/-- Each place of the primary opcode map is listed or empty (R110). -/
theorem opcode_listed_or_empty (op : BitVec 6) :
    op.toNat ∈ List.range 0x14 ++ [0x20, 0x21, 0x22, 0x23, 0x24, 0x25, 0x26, 0x28, 0x29, 0x2a, 0x2b, 0x2e, 0x30, 0x31,
        0x32, 0x33, 0x38, 0x39, 0x3a, 0x3b] ∨
      op ∈ [0x14#6, 0x15#6, 0x16#6, 0x17#6, 0x18#6, 0x19#6, 0x1a#6, 0x1b#6, 0x1c#6, 0x1d#6, 0x1e#6, 0x1f#6, 0x27#6,
        0x2c#6, 0x2d#6, 0x2f#6, 0x34#6, 0x35#6, 0x36#6, 0x37#6, 0x3c#6, 0x3d#6, 0x3e#6, 0x3f#6] := by
  revert op
  decide

/-! What each opcode map answers other than an instruction: `d` is one of the decoder's three other answers. Each proof
looks at every place of its map. -/

/-- The operations of coprocessor 1 by their format, once the comparisons that the source does not list are out. -/
theorem decodeCop1Op_eq_iff_formats (w : Word) (d : Decoded) :
    decodeCop1Op w = d ↔
      (.unlisted = d ∧ unlistedCompare (fieldFunct w).toNat = true) ∨
      (¬ unlistedCompare (fieldFunct w).toNat = true ∧
        ((fieldRs w = 0x10#5 ∧ decodeFpSingle w = d) ∨ (fieldRs w = 0x11#5 ∧ decodeFpDouble w = d) ∨
          (fieldRs w = 0x14#5 ∧ decodeFpWord w = d) ∨ (.reserved = d ∧ fieldRs w ∉ [0x10#5, 0x11#5, 0x14#5]))) := by
  unfold decodeCop1Op
  cases unlistedCompare (fieldFunct w).toNat with
  | true => simp
  | false =>
    generalize fieldRs w = rs
    simp only [Bool.false_eq_true, if_false]
    split <;> simp_all [BitVec.toNat_eq_nat]

section
variable {d : Decoded} (hd : ∀ i, Decoded.instr i ≠ d)
include hd

theorem strictly_eq_iff (zero : Bool) (i : Instr) : strictly zero i = d ↔ .mustBeZero = d ∧ zero = false := by
  cases zero <;> simp [strictly, hd]

theorem decodeSpecial_eq_iff (w : Word) :
    decodeSpecial w = d ↔
      (.mustBeZero = d ∧
        ((fieldFunct w ∈ [0x00#6, 0x02#6, 0x03#6] ∧ fieldRs w ≠ 0#5) ∨
          (fieldFunct w ∈ [0x04#6, 0x06#6, 0x07#6, 0x20#6, 0x21#6, 0x22#6, 0x23#6, 0x24#6, 0x25#6, 0x26#6, 0x27#6,
            0x2a#6, 0x2b#6] ∧ fieldShamt w ≠ 0#5) ∨
          (fieldFunct w ∈ [0x08#6, 0x11#6, 0x13#6] ∧ ¬ (fieldRt w = 0#5 ∧ fieldRd w = 0#5 ∧ fieldShamt w = 0#5)) ∨
          (fieldFunct w = 0x09#6 ∧ (fieldRt w ≠ 0#5 ∨ fieldShamt w ≠ 0#5)) ∨
          (fieldFunct w ∈ [0x10#6, 0x12#6] ∧ (¬ (fieldRs w = 0#5 ∧ fieldRt w = 0#5) ∨ fieldShamt w ≠ 0#5)) ∨
          (fieldFunct w ∈ [0x18#6, 0x19#6, 0x1a#6, 0x1b#6] ∧ ¬ (fieldRd w = 0#5 ∧ fieldShamt w = 0#5)))) ∨
      (.reserved = d ∧ fieldFunct w ∉ [0x00#6, 0x02#6, 0x03#6, 0x04#6, 0x06#6, 0x07#6, 0x08#6, 0x09#6, 0x0c#6, 0x0d#6,
        0x10#6, 0x11#6, 0x12#6, 0x13#6, 0x18#6, 0x19#6, 0x1a#6, 0x1b#6, 0x20#6, 0x21#6, 0x22#6, 0x23#6, 0x24#6,
        0x25#6, 0x26#6, 0x27#6, 0x2a#6, 0x2b#6]) := by
  unfold decodeSpecial
  generalize fieldFunct w = fn
  dsimp only
  split <;> simp_all [BitVec.toNat_eq_nat, strictly_eq_iff hd, imp_iff_not_or, or_assoc]

theorem decodeRegimm_eq_iff (w : Word) :
    decodeRegimm w = d ↔ .reserved = d ∧ fieldRt w ∉ [0x00#5, 0x01#5, 0x10#5, 0x11#5] := by
  unfold decodeRegimm
  generalize fieldRt w = rt
  split <;> simp_all [BitVec.toNat_eq_nat]

theorem decodeCop0Op_eq_iff (w : Word) :
    decodeCop0Op w = d ↔
      (.mustBeZero = d ∧ fieldFunct w = 0x10#6 ∧ w.extractLsb' 6 19 ≠ 0#19) ∨
      (.unlisted = d ∧ fieldFunct w ∈ [0x01#6, 0x02#6, 0x06#6, 0x08#6]) ∨
      (.reserved = d ∧ fieldFunct w ∉ [0x01#6, 0x02#6, 0x06#6, 0x08#6, 0x10#6]) := by
  unfold decodeCop0Op
  generalize fieldFunct w = fn
  split <;> simp_all [BitVec.toNat_eq_nat, strictly_eq_iff hd]

theorem decodeFpSingle_eq_iff (w : Word) :
    decodeFpSingle w = d ↔
      (.mustBeZero = d ∧
        ((fieldFunct w ∈ [0x05#6, 0x06#6, 0x07#6, 0x21#6, 0x24#6] ∧ fieldRt w ≠ 0#5) ∨
          (fieldFunct w ∈ [0x32#6, 0x3c#6, 0x3e#6] ∧ fieldShamt w ≠ 0#5))) ∨
      (.reserved = d ∧ fieldFunct w ∉ [0x00#6, 0x01#6, 0x02#6, 0x03#6, 0x05#6, 0x06#6, 0x07#6, 0x21#6, 0x24#6, 0x32#6,
        0x3c#6, 0x3e#6]) := by
  unfold decodeFpSingle
  generalize fieldFunct w = fn
  dsimp only
  split <;> simp_all [BitVec.toNat_eq_nat, strictly_eq_iff hd]

theorem decodeFpDouble_eq_iff (w : Word) :
    decodeFpDouble w = d ↔
      (.mustBeZero = d ∧
        ((fieldFunct w ∈ [0x05#6, 0x06#6, 0x07#6, 0x20#6, 0x24#6] ∧ fieldRt w ≠ 0#5) ∨
          (fieldFunct w ∈ [0x32#6, 0x3c#6, 0x3e#6] ∧ fieldShamt w ≠ 0#5))) ∨
      (.reserved = d ∧ fieldFunct w ∉ [0x00#6, 0x01#6, 0x02#6, 0x03#6, 0x05#6, 0x06#6, 0x07#6, 0x20#6, 0x24#6, 0x32#6,
        0x3c#6, 0x3e#6]) := by
  unfold decodeFpDouble
  generalize fieldFunct w = fn
  dsimp only
  split <;> simp_all [BitVec.toNat_eq_nat, strictly_eq_iff hd]

theorem decodeFpWord_eq_iff (w : Word) :
    decodeFpWord w = d ↔
      (.mustBeZero = d ∧ fieldFunct w ∈ [0x20#6, 0x21#6] ∧ fieldRt w ≠ 0#5) ∨
      (.reserved = d ∧ fieldFunct w ∉ [0x20#6, 0x21#6]) := by
  unfold decodeFpWord
  generalize fieldFunct w = fn
  dsimp only
  split <;> simp_all [BitVec.toNat_eq_nat, strictly_eq_iff hd]

theorem decodeCop1Op_eq_iff (w : Word) :
    w.getLsbD 25 = true ∧ decodeCop1Op w = d ↔
      (.mustBeZero = d ∧
        (((fieldRs w = 0x10#5 ∧ fieldFunct w ∈ [0x05#6, 0x06#6, 0x07#6, 0x21#6, 0x24#6]) ∨
            (fieldRs w = 0x11#5 ∧ fieldFunct w ∈ [0x05#6, 0x06#6, 0x07#6, 0x20#6, 0x24#6]) ∨
            (fieldRs w = 0x14#5 ∧ fieldFunct w ∈ [0x20#6, 0x21#6])) ∧ fieldRt w ≠ 0#5 ∨
          (fieldRs w = 0x10#5 ∨ fieldRs w = 0x11#5) ∧ fieldFunct w ∈ [0x32#6, 0x3c#6, 0x3e#6] ∧
            fieldShamt w ≠ 0#5)) ∨
      (.unlisted = d ∧ w.getLsbD 25 = true ∧ w.extractLsb' 4 2 = 0b11#2 ∧
        fieldFunct w ∉ [0x32#6, 0x3c#6, 0x3e#6]) ∨
      (.reserved = d ∧ w.getLsbD 25 = true ∧
        ¬ (w.extractLsb' 4 2 = 0b11#2 ∧ fieldFunct w ∉ [0x32#6, 0x3c#6, 0x3e#6]) ∧
        ¬ (fieldRs w = 0x10#5 ∧ fieldFunct w ∈ [0x00#6, 0x01#6, 0x02#6, 0x03#6, 0x05#6, 0x06#6, 0x07#6, 0x21#6, 0x24#6,
          0x32#6, 0x3c#6, 0x3e#6]) ∧
        ¬ (fieldRs w = 0x11#5 ∧ fieldFunct w ∈ [0x00#6, 0x01#6, 0x02#6, 0x03#6, 0x05#6, 0x06#6, 0x07#6, 0x20#6, 0x24#6,
          0x32#6, 0x3c#6, 0x3e#6]) ∧
        ¬ (fieldRs w = 0x14#5 ∧ fieldFunct w ∈ [0x20#6, 0x21#6])) := by
  have upper : w.extractLsb' 4 2 = (fieldFunct w).extractLsb' 4 2 := extractLsb'_of_extractLsb' w 0 6 4 2 (by decide)
  rw [decodeCop1Op_eq_iff_formats, decodeFpSingle_eq_iff hd, decodeFpDouble_eq_iff hd, decodeFpWord_eq_iff hd,
    unlistedCompare_iff, operation_iff]
  rw [upper]
  generalize fieldRs w = rs
  generalize fieldFunct w = fn
  grind

theorem decodeCop_eq_iff (c : CopRows) (w : Word) :
    decodeCop c w = d ↔
      (.reserved = d ∧ ((¬ w.getLsbD 25 = true ∧ fieldRs w ∉ [0x00#5, 0x02#5, 0x04#5, 0x06#5, 0x08#5]) ∨
        (fieldRs w = 0x08#5 ∧ fieldRt w ≠ 0x00#5 ∧ fieldRt w ≠ 0x01#5))) ∨
      (.mustBeZero = d ∧ (fieldRs w = 0#5 ∨ fieldRs w = 4#5) ∧ fieldLow11 w ≠ 0#11) ∨
      (.unlisted = d ∧ (fieldRs w = 2#5 ∨ fieldRs w = 6#5)) ∨
      (w.getLsbD 25 = true ∧ c.op w = d) := by
  rw [operation_iff]
  unfold decodeCop
  generalize fieldRs w = rs
  generalize fieldRt w = rt
  split
  case h_5 => split <;> simp_all [BitVec.toNat_eq_nat]
  case h_6 => split <;> simp_all [BitVec.toNat_eq_nat]
  all_goals simp_all [BitVec.toNat_eq_nat, strictly_eq_iff hd]

/-- The four coprocessors together: their moves and branches are alike, their operations are each one's own. -/
theorem coprocessors_eq_iff (w : Word) :
    ((fieldOp w = 0x10#6 ∧ decodeCop ⟨.mfc0, .mtc0, .bc0f, .bc0t, decodeCop0Op⟩ w = d) ∨
      (fieldOp w = 0x11#6 ∧ decodeCop ⟨.mfc1, .mtc1, .bc1f, .bc1t, decodeCop1Op⟩ w = d) ∨
      (fieldOp w = 0x12#6 ∧ decodeCop ⟨.mfc2, .mtc2, .bc2f, .bc2t, fun _ => .unlisted⟩ w = d) ∨
      (fieldOp w = 0x13#6 ∧ decodeCop ⟨.mfc3, .mtc3, .bc3f, .bc3t, fun _ => .unlisted⟩ w = d)) ↔
      (.reserved = d ∧ w.extractLsb' 28 4 = 0b0100#4 ∧
        ((¬ w.getLsbD 25 = true ∧ fieldRs w ∉ [0x00#5, 0x02#5, 0x04#5, 0x06#5, 0x08#5]) ∨
          (fieldRs w = 0x08#5 ∧ fieldRt w ≠ 0x00#5 ∧ fieldRt w ≠ 0x01#5))) ∨
      (.mustBeZero = d ∧ w.extractLsb' 28 4 = 0b0100#4 ∧ (fieldRs w = 0#5 ∨ fieldRs w = 4#5) ∧
        fieldLow11 w ≠ 0#11) ∨
      (.unlisted = d ∧ w.extractLsb' 28 4 = 0b0100#4 ∧ (fieldRs w = 2#5 ∨ fieldRs w = 6#5)) ∨
      (fieldOp w = 0x10#6 ∧ w.getLsbD 25 = true ∧ decodeCop0Op w = d) ∨
      (fieldOp w = 0x11#6 ∧ w.getLsbD 25 = true ∧ decodeCop1Op w = d) ∨
      (.unlisted = d ∧ w.getLsbD 25 = true ∧ (fieldOp w = 0x12#6 ∨ fieldOp w = 0x13#6)) := by
  rw [coprocessor_iff]
  by_cases h10 : fieldOp w = 0x10#6
  · simp [h10, decodeCop_eq_iff hd]
  by_cases h11 : fieldOp w = 0x11#6
  · simp [h11, decodeCop_eq_iff hd]
  by_cases h12 : fieldOp w = 0x12#6
  · simp [h12, decodeCop_eq_iff hd, and_comm]
  by_cases h13 : fieldOp w = 0x13#6
  · simp [h13, decodeCop_eq_iff hd, and_comm]
  simp [h10, h11, h12, h13]

theorem decodeWord_eq_iff (w : Word) :
    decodeWord w = d ↔
      (.reserved = d ∧ fieldOp w ∈ [0x14#6, 0x15#6, 0x16#6, 0x17#6, 0x18#6, 0x19#6, 0x1a#6, 0x1b#6, 0x1c#6, 0x1d#6,
        0x1e#6, 0x1f#6, 0x27#6, 0x2c#6, 0x2d#6, 0x2f#6, 0x34#6, 0x35#6, 0x36#6, 0x37#6, 0x3c#6, 0x3d#6, 0x3e#6,
        0x3f#6]) ∨
      (fieldOp w = 0#6 ∧ decodeSpecial w = d) ∨ (fieldOp w = 0x01#6 ∧ decodeRegimm w = d) ∨
      (.mustBeZero = d ∧ fieldOp w ∈ [0x06#6, 0x07#6] ∧ fieldRt w ≠ 0#5) ∨
      (.mustBeZero = d ∧ fieldOp w = 0x0f#6 ∧ fieldRs w ≠ 0#5) ∨
      (fieldOp w = 0x10#6 ∧ decodeCop ⟨.mfc0, .mtc0, .bc0f, .bc0t, decodeCop0Op⟩ w = d) ∨
      (fieldOp w = 0x11#6 ∧ decodeCop ⟨.mfc1, .mtc1, .bc1f, .bc1t, decodeCop1Op⟩ w = d) ∨
      (fieldOp w = 0x12#6 ∧ decodeCop ⟨.mfc2, .mtc2, .bc2f, .bc2t, fun _ => .unlisted⟩ w = d) ∨
      (fieldOp w = 0x13#6 ∧ decodeCop ⟨.mfc3, .mtc3, .bc3f, .bc3t, fun _ => .unlisted⟩ w = d) := by
  unfold decodeWord
  generalize fieldOp w = op
  dsimp only
  split
  case h_41 =>
    have empty := (opcode_listed_or_empty op).resolve_left (by simp_all [List.range_succ])
    simp_all [BitVec.toNat_eq_nat]
  all_goals simp_all [BitVec.toNat_eq_nat, strictly_eq_iff hd]

end

theorem moveBits_iff (w : Word) :
    w.extractLsb' 6 15 = 0#15 ↔ fieldRt w = 0#5 ∧ fieldRd w = 0#5 ∧ fieldShamt w = 0#5 := by
  rw [extractLsb'_add_eq_zero_iff w 6 5 10, extractLsb'_add_eq_zero_iff w 6 5 5]
  rfl

/-- Settles O4: the answers of the opcode maps, put together; only for the unlisted words are the bits grouped in
another way, since an operation of coprocessor 0, 1, 2 or 3 is one of a coprocessor. -/
theorem wordsOutsideTheTable : Obligations.WordsOutsideTheTable := by
  intro w
  have fromHiLo : w.extractLsb' 16 10 = 0#10 ↔ fieldRs w = 0#5 ∧ fieldRt w = 0#5 :=
    extractLsb'_add_eq_zero_iff w 16 5 5
  have multiply : w.extractLsb' 6 10 = 0#10 ↔ fieldRd w = 0#5 ∧ fieldShamt w = 0#5 :=
    extractLsb'_add_eq_zero_iff w 6 5 5
  simp only [decodeWord_eq_iff, coprocessors_eq_iff, decodeSpecial_eq_iff, decodeRegimm_eq_iff, decodeCop0Op_eq_iff,
    decodeCop1Op_eq_iff, moveBits_iff, fromHiLo, multiply, reduceCtorEq, ne_eq, not_false_eq_true, implies_true,
    false_and, and_false, or_false, false_or, true_and]
  refine ⟨?_, Iff.rfl, Iff.rfl⟩
  rw [coprocessor_iff]
  unfold fieldOp fieldRs fieldFunct
  generalize w.extractLsb' 26 6 = op
  generalize w.extractLsb' 21 5 = rs
  clear fromHiLo multiply
  grind

end Sys2Proof

namespace Sys2Proof.Machine

/-! Words of no instruction in a step. -/

/-- With no interrupt, no exception of the fetch and no stored byte in the way, the fetch decodes the word at `pc`
(R31). -/
theorem State.fetch_eq_decoded (s : State) (hi : s.sampleInterrupts.interruptTaken = false)
    (hf : s.sampleInterrupts.fetchFault = none) (hs : s.fetchStale = false) :
    s.fetch = s.sampleInterrupts.decoded (s.word s.pc) := by
  have fresh : s.sampleInterrupts.fetchStale = false := hs
  simp only [State.fetch, hi, hf, fresh]
  rfl

/-- Settles O10: what the fetch makes of each of the decoder's three other answers. -/
theorem wordsWithoutInstruction : Obligations.WordsWithoutInstruction := by
  intro s hi hf hs
  have fetched := s.fetch_eq_decoded hi hf hs
  refine ⟨fun h => ?_, fun h => ?_, fun h => ?_⟩
  · rw [step, fetched, State.decoded, h]
    exact s.sampleInterrupts.raise_spec .ri 0#32
  · rw [step, fetched, State.decoded, h]
  · rw [step, fetched, State.decoded, h]

end Sys2Proof.Machine
end

section
/-! PROOFS. The six shifts (R108, R168 to R173). -/

namespace Sys2Proof.Machine

/-- The distance of a variable shift is the low five bits of its register (R108). -/
theorem shiftDistance_eq (v : Word) : shiftDistance v = v.toNat % 32 := by
  simp [shiftDistance, BitVec.extractLsb'_toNat]

theorem shiftLeft_eq_mul (v : Word) (n : Nat) : v <<< n = BitVec.ofNat 32 (v.toNat * 2 ^ n) :=
  BitVec.eq_of_toNat_eq (by simp [Nat.shiftLeft_eq])

theorem ushiftRight_eq_div (v : Word) (n : Nat) : v >>> n = BitVec.ofNat 32 (v.toNat / 2 ^ n) := by
  rw [← Nat.shiftRight_eq_div_pow, ← BitVec.toNat_ushiftRight, BitVec.ofNat_toNat, BitVec.setWidth_eq]

/-- A sign-filling shift divides, rounding down (R170, R171). -/
theorem sshiftRight_eq_fdiv (v : Word) (n : Nat) : v.sshiftRight n = BitVec.ofInt 32 (v.toInt.fdiv (2 ^ n)) := by
  rw [Int.fdiv_eq_ediv_of_nonneg _ (by positivity), ← (v.sshiftRight n).ofInt_toInt,
    BitVec.toInt_sshiftRight, Int.shiftRight_eq_div_pow, Nat.cast_pow, Nat.cast_ofNat]

/-- Settles O20: each word is the shift's own, and each shift is the write of a product or a quotient. -/
theorem shiftsMultiplyAndDivide : Obligations.ShiftsMultiplyAndDivide := by
  intro s rd rt rs sh
  simp only [← shiftDistance_eq, ← shiftLeft_eq_mul, ← ushiftRight_eq_div, ← sshiftRight_eq_fdiv]
  exact ⟨decodeWord_of_encodeWord rfl, decodeWord_of_encodeWord rfl, decodeWord_of_encodeWord rfl,
    decodeWord_of_encodeWord rfl, decodeWord_of_encodeWord rfl, decodeWord_of_encodeWord rfl,
    s.write_spec rd _, s.write_spec rd _, s.write_spec rd _, s.write_spec rd _, s.write_spec rd _, s.write_spec rd _⟩

end Sys2Proof.Machine
end

section
/-! PROOFS. The pseudoinstructions that load floating point registers: their words write `$at` or load a register, and
what they have left is told after each of them (R116, R119, R121, R371, R372, R472). -/

namespace Sys2Proof.Machine

/-! The two halves of an absolute address. -/

/-- The upper half is chosen so that the lower one, extended by its sign, leads to the address (R119). -/
theorem upperImm_add_signImm (a : Word) : upperImm (addressHigh a) + signImm (a.extractLsb' 0 16) = a := by
  have high : (addressHigh a).toNat = (a.toNat + 0x8000) % 2 ^ 32 / 2 ^ 16 := by
    simp [addressHigh, BitVec.extractLsb'_toNat, Nat.shiftRight_eq_div_pow]
    omega
  have low : (a.extractLsb' 0 16).toNat = a.toNat % 2 ^ 16 := by simp [BitVec.extractLsb'_toNat]
  have sign : (signImm (a.extractLsb' 0 16)).toNat =
      a.toNat % 2 ^ 16 + if 2 ^ 15 ≤ a.toNat % 2 ^ 16 then 2 ^ 32 - 2 ^ 16 else 0 := by
    rw [signImm, BitVec.toNat_signExtend, BitVec.msb_eq_decide, BitVec.toNat_setWidth, low]
    simp
    omega
  apply BitVec.eq_of_toNat_eq
  rw [BitVec.toNat_add, sign, upperImm, toNat_append_eq, high]
  simp
  split <;> omega

/-! What is left alone. -/

theorem SameSystem.trans {s t u : State} (h : SameSystem s t) (k : SameSystem t u) : SameSystem s u := by
  obtain ⟨params, status, excCode, bd, epc, badVAddr, intLines, intSchedule⟩ := h
  obtain ⟨params', status', excCode', bd', epc', badVAddr', intLines', intSchedule'⟩ := k
  exact ⟨params'.trans params, status'.trans status, excCode'.trans excCode, bd'.trans bd, epc'.trans epc,
    badVAddr'.trans badVAddr, intLines'.trans intLines, intSchedule'.trans intSchedule⟩

/-- A word access that passes its checks raises no exception (R280, R310). -/
theorem State.wordFault_eq_none (s : State) (code : BitVec 4) (a : Word) (ha : a.toNat % 4 = 0)
    (hc : s.CanAccess a (wordSpan a)) : s.wordFault code a = none := by
  obtain ⟨allowed, mapped⟩ := hc
  have responds : ¬ ∃ p ∈ wordSpan a, s.mapped p = false := by
    rintro ⟨p, hp, off⟩
    simp [mapped p hp] at off
  rw [State.wordFault, if_neg (by simpa using ha), if_neg allowed, if_neg responds]

theorem State.word_congr {s t : State} (system : SameSystem s t) (memory : SameMemory s t) (a : Word) :
    t.word a = s.word a := by
  simp only [State.word, system.1, memory.1]

/-! After a pseudoinstruction's words. -/

/-- What comes after the words touches `$at` alone, and that only where the expansion writes it (R121 b). -/
theorem State.afterPseudo_spec (t : State) (i : Instr) (usesAt : Bool)
    (h : usesAt = false → ∀ v, assemblerTempAfter i v = none) :
    (∀ r, (usesAt = true → r ≠ regAt) → readSlot (t.afterPseudo i).gpr r = readSlot t.gpr r) ∧
      SameHiLo t (t.afterPseudo i) ∧ SameFp t (t.afterPseudo i) ∧ SameMemory t (t.afterPseudo i) ∧
      SameSystem t (t.afterPseudo i) ∧ (t.afterPseudo i).pc = t.pc ∧
      (t.afterPseudo i).pendingTarget = t.pendingTarget ∧ (t.afterPseudo i).loadPending = t.loadPending := by
  unfold State.afterPseudo
  cases e : assemblerTempAfter i (t.draw .assemblerTemp) with
  | none => exact ⟨fun _ _ => rfl, .refl t, .refl t, .refl t, .refl t, rfl, rfl, rfl⟩
  | some v =>
    have uses : usesAt = true := by
      by_contra off
      simp [h (by simpa using off)] at e
    refine ⟨fun r hr => ?_, ⟨rfl, rfl⟩, ⟨fun _ => rfl, rfl⟩, ⟨fun _ => rfl, rfl⟩,
      ⟨rfl, rfl, rfl, rfl, rfl, rfl, rfl, rfl⟩,
      rfl, rfl, rfl⟩
    exact (t.readSlot_setX regAt r v).trans (if_neg fun e => hr uses e.1)

/-- A pseudoinstruction all of whose words run (R121, R122). -/
theorem exec_of_runWords {i : Instr} {s t : State} {words : List Instr} (hp : i.isPseudo = true)
    (hw : wellFormed i = true) (he : expand s.params.bigEndian s.params.branchDelaySlot i = words)
    (hr : runWords words.length words s = .done t) : exec i s = .next (t.afterPseudo i) := by
  rw [exec_of_isPseudo i s hp, runPseudo_eq i s hw, he]
  dsimp only
  rw [hr]
  rfl

/-! Between the words. -/

/-- The state `t` that `n` words have made of `s`: they have loaded the floating point registers of `written`, have
written `$at` where `usesAt`, and have left nothing pending that the next word sees but a load of a floating point
register. -/
structure LoadsSoFar (s t : State) (written : List (RegIdx × Word)) (usesAt : Bool) (n : Nat) : Prop where
  loaded : ∀ p ∈ written, readSlot t.fpr p.1 = p.2
  otherFpr : ∀ r, (∀ p ∈ written, p.1 ≠ r) → readSlot t.fpr r = readSlot s.fpr r
  gpr : ∀ r, (usesAt = true → r ≠ regAt) → readSlot t.gpr r = readSlot s.gpr r
  hiLo : SameHiLo s t
  flag : t.cc1 = s.cc1
  memory : SameMemory s t
  system : SameSystem s t
  pc : t.pc = s.pc + BitVec.ofNat 32 (4 * n)
  noTarget : t.params.branchDelaySlot = true → t.pendingTarget = none
  noDelay : ∀ r, t.gprDelayed r = false

namespace LoadsSoFar

theorem start {s : State} (hs : s.Settled) (usesAt : Bool) : LoadsSoFar s s [] usesAt 0 :=
  ⟨fun _ h => absurd h List.not_mem_nil, fun _ _ => rfl, fun _ _ => rfl, .refl s, rfl, .refl s, .refl s,
    (BitVec.add_zero _).symm, hs.1, hs.gprDelayed⟩

variable {s t : State} {written : List (RegIdx × Word)} {usesAt : Bool} {n : Nat}

theorem x_eq (h : LoadsSoFar s t written usesAt n) (hs : s.Settled) {r : RegIdx} (hr : usesAt = true → r ≠ regAt) :
    t.x r = s.x r := by
  rw [t.x_of_settled r (h.noDelay r), s.x_of_settled r (hs.gprDelayed r), h.gpr r hr]

theorem pc_next (h : LoadsSoFar s t written usesAt n) {u : State} (g : GoesOn t u) : u.pc = t.pc + 4#32 := by
  rw [g.2]
  split
  · next slots => rw [h.noTarget slots, Option.getD_none]
  · rfl

theorem pc_succ (h : LoadsSoFar s t written usesAt n) {u : State} (g : GoesOn t u) :
    u.pc = s.pc + BitVec.ofNat 32 (4 * (n + 1)) := by
  rw [h.pc_next g, h.pc, BitVec.add_assoc, ← BitVec.ofNat_add, Nat.mul_succ]

theorem runWords_eq (h : LoadsSoFar s t written usesAt n) {i : Instr} {u : State} (hi : wordEffect i t = .done u)
    (g : GoesOn t u) (fuel : Nat) (rest : List Instr) : runWords (fuel + 1) (i :: rest) t = runWords fuel rest u :=
  runWords_next fuel i rest t u hi (h.pc_next g)

/-- A word that writes `$at`. -/
theorem writeAt (h : LoadsSoFar s t written true n) (i : Instr) {v : Word} (hi : wordEffect i t = t.write regAt v) :
    ∃ u, (∀ fuel rest, runWords (fuel + 1) (i :: rest) t = runWords fuel rest u) ∧
      LoadsSoFar s u written true (n + 1) ∧ u.x regAt = v := by
  obtain ⟨_, ⟨⟩, gpr, hiLo, fp, memory, system, goesOn, load⟩ := t.write_spec regAt v
  have noDelay : ∀ r, (t.setX regAt v).retire.gprDelayed r = false := fun r => by simp [State.gprDelayed]
  refine ⟨_, h.runWords_eq hi goesOn, ⟨fun p hp => (fp.1 p.1).trans (h.loaded p hp), fun r hr =>
    (fp.1 r).trans (h.otherFpr r hr), fun r hr => ?_, h.hiLo.trans hiLo, fp.2.trans h.flag, h.memory.trans memory,
    h.system.trans system, h.pc_succ goesOn, fun _ => goesOn.1, noDelay⟩, ?_⟩
  · rw [gpr r, if_neg fun e => hr rfl e.1, h.gpr r hr]
  · rw [State.x_of_settled _ _ (noDelay regAt), gpr regAt]
    rfl

/-- A word that loads a floating point register, one that no word before it has loaded. -/
theorem load (h : LoadsSoFar s t written usesAt n) {a : Word} (ha : a.toNat % 4 = 0)
    (hc : s.CanAccess a (wordSpan a)) {base : RegIdx} {imm : Half} (hea : t.ea imm base = a) (r : RegIdx)
    (fresh : ∀ p ∈ written, p.1 ≠ r) :
    ∃ u, (∀ fuel rest, runWords (fuel + 1) (.lwc1 r imm base :: rest) t = runWords fuel rest u) ∧
      LoadsSoFar s u (written ++ [(r, s.word a)]) usesAt (n + 1) ∧ u.pendingTarget = none ∧
      u.loadPending = if s.params.loadDelaySlot = true then some (.fpr r) else none := by
  obtain ⟨u, hu, fpr, flag, gpr, hiLo, memory, system, goesOn, load⟩ := t.setF_retireLoad_spec r (s.word a)
  have passes : t.wordFault 4#4 a = none :=
    (State.wordFault_congr h.system 4#4 a).trans (s.wordFault_eq_none 4#4 a ha hc)
  have effect := (accessesWord_lwc1 t r base imm).completes rfl (hea ▸ passes)
  rw [hea, State.word_congr h.system h.memory] at effect
  cases hu
  rw [h.system.1] at load
  have noDelay : ∀ q, ((t.setF r (s.word a)).retireLoad (.fpr r)).gprDelayed q = false := fun q => by
    unfold State.gprDelayed
    rw [load]
    split_ifs <;> simp
  refine ⟨_, h.runWords_eq effect goesOn, ⟨?_, ?_, fun q hq => (gpr q).trans (h.gpr q hq), h.hiLo.trans hiLo,
    flag.trans h.flag, h.memory.trans memory, h.system.trans system, h.pc_succ goesOn, fun _ => goesOn.1, noDelay⟩,
    goesOn.1, load⟩
  · simp only [List.forall_mem_append, List.forall_mem_singleton]
    exact ⟨fun p hp => (fpr p.1).trans ((if_neg (fresh p hp)).trans (h.loaded p hp)), (fpr r).trans (if_pos rfl)⟩
  · simp only [List.forall_mem_append, List.forall_mem_singleton]
    rintro q ⟨others, apart⟩
    exact (fpr q).trans ((if_neg (Ne.symm apart)).trans (h.otherFpr q others))

/-- After the last word, a load, the pseudoinstruction has completed (R121, R122, R472). -/
theorem completes (h : LoadsSoFar s t written usesAt n) {i : Instr} {last : RegIdx}
    (he : exec i s = .next (t.afterPseudo i)) (hn : (expand s.params.bigEndian s.params.branchDelaySlot i).length = n)
    (hAt : usesAt = false → ∀ v, assemblerTempAfter i v = none) (ht : t.pendingTarget = none)
    (hl : t.loadPending = if s.params.loadDelaySlot = true then some (.fpr last) else none) :
    PseudoLoadsFp i s written usesAt last := by
  obtain ⟨gpr, hiLo, fp, memory, system, pc, target, load⟩ := t.afterPseudo_spec i usesAt hAt
  exact ⟨_, he, fun p hp => (fp.1 p.1).trans (h.loaded p hp), fun r hr => (fp.1 r).trans (h.otherFpr r hr),
    fun r hr => (gpr r hr).trans (h.gpr r hr), h.hiLo.trans hiLo, fp.2.trans h.flag, h.memory.trans memory,
    h.system.trans system, by rw [pc, h.pc, State.afterExpansion, hn], target.trans ht, load.trans hl⟩

end LoadsSoFar

/-! `l.d`. -/

theorem loadD_loads (s : State) (hs : s.Settled) (r base first last : RegIdx) (k : Half)
    (hw : wellFormed (.pLoadD r k base) = true) (apart : first ≠ last)
    (he : expand s.params.bigEndian s.params.branchDelaySlot (.pLoadD r k base) =
      [.lwc1 first k base, .lwc1 last (k + 4#16) base])
    (ha : (s.ea k base).toNat % 4 = 0) (hc : s.CanAccess (s.ea k base) (wordSpan (s.ea k base)))
    (hc' : s.CanAccess (s.ea k base + 4#32) (wordSpan (s.ea k base + 4#32))) :
    PseudoLoadsFp (.pLoadD r k base) s [(first, s.word (s.ea k base)), (last, s.word (s.ea k base + 4#32))] false
      last := by
  have fits : offsetFits k 4 = true := by
    simp only [wellFormed, Bool.and_eq_true] at hw
    exact hw.2
  have ha' : (s.ea k base + 4#32).toNat % 4 = 0 := by
    rw [BitVec.toNat_add, BitVec.toNat_ofNat]
    omega
  obtain ⟨t, run, soFar, -⟩ := (LoadsSoFar.start hs false).load ha hc rfl first (by simp)
  have second : t.ea (k + 4#16) base = s.ea k base + 4#32 := ea_add_four fits (soFar.x_eq hs nofun)
  obtain ⟨u, run', done, target, pending⟩ := soFar.load ha' hc' second last (by simpa using apart)
  refine done.completes (exec_of_runWords rfl hw he ?_) (congrArg List.length he) (fun _ _ => rfl) target pending
  exact (run _ _).trans ((run' _ _).trans (runWords_nil _ u))

/-! `l.s`. -/

theorem loadS_loads (s : State) (hs : s.Settled) (r : RegIdx) (addr : Address)
    (hw : wellFormed (.pLoadS r addr) = true) (ha : (s.addressValue addr).toNat % 4 = 0)
    (hc : s.CanAccess (s.addressValue addr) (wordSpan (s.addressValue addr))) :
    PseudoLoadsFp (.pLoadS r addr) s [(r, s.word (s.addressValue addr))] (Address.usesAt addr) r := by
  have start := LoadsSoFar.start hs (Address.usesAt addr)
  cases addr with
  | offset k base =>
    obtain ⟨u, run, done, target, pending⟩ := start.load ha hc rfl r (by simp)
    refine done.completes (exec_of_runWords rfl hw rfl ?_) rfl (fun _ _ => rfl) target pending
    exact (run _ _).trans (runWords_nil _ u)
  | absolute a =>
    obtain ⟨t, run, soFar, high⟩ := start.writeAt (.lui regAt (addressHigh a)) rfl
    have address : t.ea (a.extractLsb' 0 16) regAt = a := by rw [State.ea, high, upperImm_add_signImm]
    obtain ⟨u, run', done, target, pending⟩ := soFar.load ha hc address r (by simp)
    refine done.completes (exec_of_runWords rfl hw rfl ?_) rfl nofun target pending
    exact (run _ _).trans ((run' _ _).trans (runWords_nil _ u))
  | indexed a base =>
    have apart : base ≠ regAt := by
      simp only [wellFormed, Address.notAt, Bool.and_eq_true, notAt, bne_iff_ne] at hw
      exact hw.2
    obtain ⟨t, run, soFar, high⟩ := start.writeAt (.lui regAt (addressHigh a)) rfl
    obtain ⟨t', run', soFar', sum⟩ := soFar.writeAt (.addu regAt regAt base) rfl
    have address : t'.ea (a.extractLsb' 0 16) regAt = a + s.x base :=
      calc t'.ea (a.extractLsb' 0 16) regAt
          = upperImm (addressHigh a) + s.x base + signImm (a.extractLsb' 0 16) := by
            rw [State.ea, sum, high, soFar.x_eq hs fun _ => apart]
        _ = a + s.x base := by rw [add_right_comm, upperImm_add_signImm]
    obtain ⟨u, run'', done, target, pending⟩ := soFar'.load ha hc address r (by simp)
    refine done.completes (exec_of_runWords rfl hw rfl ?_) rfl nofun target pending
    exact (run _ _).trans ((run' _ _).trans ((run'' _ _).trans (runWords_nil _ u)))

/-- Settles O37: each pseudoinstruction is followed word by word, for each byte order and each form of the operand. -/
theorem fpLoadPseudoinstructions : Obligations.FpLoadPseudoinstructions := by
  intro s fd base k addr hs
  refine ⟨fun hw ha hc hc' => ?_, fun hw ha hc => ?_⟩
  · have apart : fd ≠ fd + 1#5 := by bv_omega
    cases hb : s.params.bigEndian with
    | false => exact loadD_loads s hs fd base fd (fd + 1#5) k hw apart (by rw [hb]; rfl) ha hc hc'
    | true => exact loadD_loads s hs fd base (fd + 1#5) fd k hw apart.symm (by rw [hb]; rfl) ha hc hc'
  · exact loadS_loads s hs fd addr hw ha hc

end Sys2Proof.Machine
end

section
/-! PROOFS. The bare additions, subtractions and logical operations (R105, R140, R141, R143 to R148, R160, R162, R163,
R174 to R177, R201), and words that the spec prints. -/

namespace Sys2Proof.Machine

/-! Results without overflow. -/

theorem add_eq_ofInt (a b : Word) : a + b = BitVec.ofInt 32 (a.toInt + b.toInt) := by
  rw [BitVec.ofInt_add, BitVec.ofInt_toInt, BitVec.ofInt_toInt]

theorem sub_eq_ofInt (a b : Word) : a - b = BitVec.ofInt 32 (a.toInt - b.toInt) := by
  rw [BitVec.sub_eq_add_neg, sub_eq_add_neg, BitVec.ofInt_add, BitVec.ofInt_neg, BitVec.ofInt_toInt,
    BitVec.ofInt_toInt]

/-- A sign-extended immediate has the value of its field (R105). -/
theorem toInt_signImm (imm : Half) : (signImm imm).toInt = imm.toInt :=
  BitVec.toInt_signExtend_of_le (by decide)

/-- Settles O21: each word is its instruction's own, and the sum or difference of two words is that of the integers
they stand for, modulo 2^32. -/
theorem wrappingArithmetic : Obligations.WrappingArithmetic := by
  intro s rd rs rt imm
  simp only [← toInt_signImm, ← add_eq_ofInt, ← sub_eq_ofInt]
  exact ⟨decodeWord_of_encodeWord rfl, decodeWord_of_encodeWord rfl, decodeWord_of_encodeWord rfl,
    s.write_spec rd _, s.write_spec rt _, s.write_spec rd _⟩

/-! Results with overflow. -/

/-- Settles O22: each word is its instruction's own, and each instruction is a checked write of the exact result. -/
theorem checkedArithmetic : Obligations.CheckedArithmetic := by
  intro s rd rs rt imm sum sumImm diff
  have sumImm_eq : sumImm = (s.x rs).toInt + (signImm imm).toInt := by rw [toInt_signImm]
  exact ⟨decodeWord_of_encodeWord rfl, decodeWord_of_encodeWord rfl, decodeWord_of_encodeWord rfl,
    s.writeChecked_spec rd sum, sumImm_eq ▸ s.writeChecked_spec rt _, s.writeChecked_spec rd diff⟩

/-! Logical operations. -/

/-- A zero-extended immediate has the value of its field (R105). -/
theorem zeroImm_eq_ofNat (imm : Half) : zeroImm imm = BitVec.ofNat 32 imm.toNat :=
  (BitVec.ofNat_toNat 32 imm).symm

/-- The operand of `lui` is its field times 2^16 (R105, R201). -/
theorem upperImm_eq_ofNat (imm : Half) : upperImm imm = BitVec.ofNat 32 (65536 * imm.toNat) := by
  apply BitVec.eq_of_toNat_eq
  rw [upperImm, toNat_append_eq, BitVec.toNat_ofNat, BitVec.toNat_ofNat]
  omega

/-- Settles O23: each word is its instruction's own, and each instruction is a write of the value stated. -/
theorem logicalAndConstantResults : Obligations.LogicalAndConstantResults := by
  intro s rd rs rt imm
  simp only [← zeroImm_eq_ofNat, ← upperImm_eq_ofNat]
  exact ⟨decodeWord_of_encodeWord rfl, decodeWord_of_encodeWord rfl, decodeWord_of_encodeWord rfl,
    decodeWord_of_encodeWord rfl, decodeWord_of_encodeWord rfl, decodeWord_of_encodeWord rfl,
    decodeWord_of_encodeWord rfl, decodeWord_of_encodeWord rfl,
    s.write_spec rd _, s.write_spec rd _, s.write_spec rd _, s.write_spec rd _,
    s.write_spec rt _, s.write_spec rt _, s.write_spec rt _, s.write_spec rt _⟩

/-! Printed words. -/

/-- Settles O1: each word is the encoding of the instruction beside it. -/
theorem decodesPrintedWords : Obligations.DecodesPrintedWords :=
  ⟨decodeWord_of_encodeWord rfl, decodeWord_of_encodeWord rfl, decodeWord_of_encodeWord rfl,
    decodeWord_of_encodeWord rfl, decodeWord_of_encodeWord rfl, decodeWord_of_encodeWord rfl,
    decodeWord_of_encodeWord rfl, decodeWord_of_encodeWord rfl, decodeWord_of_encodeWord rfl,
    decodeWord_of_encodeWord rfl, decodeWord_of_encodeWord rfl, decodeWord_of_encodeWord rfl,
    decodeWord_of_encodeWord rfl, decodeWord_of_encodeWord rfl⟩

end Sys2Proof.Machine
end

section
/-! PROOFS. The bare multiplications and divisions (R149, R150, R156, R157, R179). -/

namespace Sys2Proof.Machine

/-! Products. -/

theorem halves_append (p : DWord) : p.extractLsb' 32 32 ++ p.extractLsb' 0 32 = p := by
  rw [BitVec.extractLsb'_append_extractLsb'_eq_extractLsb' (by decide), BitVec.extractLsb'_eq_self]

theorem mul_toInt_bounds (a b : Word) : -2 ^ 62 ≤ a.toInt * b.toInt ∧ a.toInt * b.toInt ≤ 2 ^ 62 := by
  have ha := a.le_toInt
  have ha' := a.toInt_lt
  have hb := b.le_toInt
  have hb' := b.toInt_lt
  have h : |a.toInt * b.toInt| ≤ 2 ^ 31 * 2 ^ 31 := by
    rw [abs_mul]
    exact mul_le_mul (abs_le.mpr ⟨ha, by omega⟩) (abs_le.mpr ⟨hb, by omega⟩) (abs_nonneg _) (by decide)
  exact ⟨by have := (abs_le.mp h).1; omega, by have := (abs_le.mp h).2; omega⟩

/-- `hi` and `lo` hold the signed product (R156). -/
theorem productSigned_toInt (a b : Word) :
    ((productSigned a b).1 ++ (productSigned a b).2 : DWord).toInt = a.toInt * b.toInt := by
  obtain ⟨low, high⟩ := mul_toInt_bounds a b
  rw [productSigned, halves_append, BitVec.toInt_ofInt]
  exact Int.bmod_eq_of_le (by omega) (by omega)

/-- `hi` and `lo` hold the unsigned product (R157). -/
theorem productUnsigned_toNat (a b : Word) :
    ((productUnsigned a b).1 ++ (productUnsigned a b).2 : DWord).toNat = a.toNat * b.toNat := by
  have bound : a.toNat * b.toNat < 2 ^ 32 * 2 ^ 32 := Nat.mul_lt_mul'' a.isLt b.isLt
  rw [productUnsigned, halves_append, BitVec.toNat_ofNat]
  exact Nat.mod_eq_of_lt bound

/-- Settles O25: each word is its instruction's own, and the two halves of the product make up the whole. -/
theorem multiplyLeavesWholeProduct : Obligations.MultiplyLeavesWholeProduct := fun s rs rt =>
  ⟨decodeWord_of_encodeWord rfl, decodeWord_of_encodeWord rfl,
    s.setHiLo_spec _ _ _ (productSigned_toInt (s.x rs) (s.x rt)),
    s.setHiLo_spec _ _ _ (productUnsigned_toNat (s.x rs) (s.x rt))⟩

/-! Quotients and remainders. -/

/-- The operands of a signed division that R179 gives a quotient: the divisor is not zero, and they are not MIN and
-1, whose quotient does not fit. -/
def Divides (a b : Word) : Prop := b ≠ 0#32 ∧ ¬ (a = 0x80000000#32 ∧ b = 0xffffffff#32)

theorem toInt_ne_zero {b : Word} (h : b ≠ 0#32) : b.toInt ≠ 0 :=
  fun e => h (BitVec.eq_of_toInt_eq e)

theorem toInt_eq_min_iff (a : Word) : a.toInt = -2 ^ 31 ↔ a = 0x80000000#32 :=
  BitVec.toInt_inj (x := a) (y := 0x80000000#32)

theorem toInt_eq_neg_one_iff (b : Word) : b.toInt = -1 ↔ b = 0xffffffff#32 :=
  BitVec.toInt_inj (x := b) (y := 0xffffffff#32)

theorem toInt_ofInt_of_fits {q : Int} (low : -2 ^ 31 ≤ q) (high : q < 2 ^ 31) : (BitVec.ofInt 32 q).toInt = q := by
  rw [BitVec.toInt_ofInt]
  exact Int.bmod_eq_of_le (by omega) (by omega)

/-- A quotient of words, however it is rounded, fits a word, but for that of MIN by -1: a divisor of 1 or -1 leaves
the dividend or its negative, and any other halves it at least (R179). -/
theorem quotient_fits {a b : Word} {q r : Int} (h : Divides a b) (hq : q * b.toInt + r = a.toInt)
    (hr : r.natAbs < b.toInt.natAbs) : -2 ^ 31 ≤ q ∧ q < 2 ^ 31 := by
  obtain ⟨-, noMin⟩ := h
  rw [← toInt_eq_min_iff, ← toInt_eq_neg_one_iff] at noMin
  have low := a.le_toInt
  have high := a.toInt_lt
  generalize a.toInt = a, b.toInt = b at *
  by_cases unit : b.natAbs = 1
  · have exact_quotient : q * b = a := by omega
    rcases Int.natAbs_eq_iff.mp unit with rfl | rfl <;> omega
  · have size : q.natAbs * b.natAbs ≤ 2 ^ 31 + b.natAbs - 1 := by
      rw [← Int.natAbs_mul]
      omega
    have half : q.natAbs < 2 ^ 31 := by
      by_contra big
      have : 2 ^ 31 * b.natAbs ≤ q.natAbs * b.natAbs := Nat.mul_le_mul_right _ (by omega)
      omega
    omega

theorem natAbs_fmod_lt (a : Int) {b : Int} (h : b ≠ 0) : (a.fmod b).natAbs < b.natAbs := by
  have low := Int.emod_nonneg a h
  have high := Int.emod_lt_abs a h
  rw [Int.abs_eq_natAbs] at high
  rw [Int.fmod_eq_emod]
  split
  · omega
  · next rounded =>
    have inexact : a % b ≠ 0 := fun e => rounded (.inr (Int.dvd_of_emod_eq_zero e))
    omega

/-- Toward zero (R179 a). -/
theorem toInt_ofInt_tdiv {a b : Word} (h : Divides a b) :
    (BitVec.ofInt 32 (a.toInt.tdiv b.toInt)).toInt = a.toInt.tdiv b.toInt := by
  have nonzero := toInt_ne_zero h.1
  have small : (a.toInt.tmod b.toInt).natAbs < b.toInt.natAbs := by
    rw [Int.natAbs_tmod]
    exact Nat.mod_lt _ (by omega)
  obtain ⟨low, high⟩ := quotient_fits h (Int.tdiv_mul_add_tmod _ _) small
  exact toInt_ofInt_of_fits low high

/-- Downwards (R179 b). -/
theorem toInt_ofInt_fdiv {a b : Word} (h : Divides a b) :
    (BitVec.ofInt 32 (a.toInt.fdiv b.toInt)).toInt = a.toInt.fdiv b.toInt := by
  obtain ⟨low, high⟩ := quotient_fits h (Int.fdiv_mul_add_fmod _ _) (natAbs_fmod_lt _ (toInt_ne_zero h.1))
  exact toInt_ofInt_of_fits low high

/-- A truncated remainder is 0 or has the dividend's sign (R179 a). -/
theorem tmod_sign (a b : Int) : a.tmod b = 0 ∨ (a.tmod b < 0 ↔ a < 0) := by
  rw [← Int.sign_eq_zero_iff_zero, ← Int.sign_eq_neg_one_iff_neg, ← Int.sign_eq_neg_one_iff_neg, Int.sign_tmod]
  split
  · exact .inl rfl
  · exact .inr Iff.rfl

/-- A remainder is no larger than the dividend. -/
theorem toInt_ofInt_tmod (a b : Word) :
    (BitVec.ofInt 32 (a.toInt.tmod b.toInt)).toInt = a.toInt.tmod b.toInt := by
  have low := a.le_toInt
  have high := a.toInt_lt
  have small := Nat.mod_le a.toInt.natAbs b.toInt.natAbs
  rw [← Int.natAbs_tmod] at small
  have sign := tmod_sign a.toInt b.toInt
  exact toInt_ofInt_of_fits (by omega) (by omega)

theorem toInt_eq_toNat_of_nonneg {a : Word} (h : 0 ≤ a.toInt) : a.toInt = a.toNat := by
  rw [BitVec.toInt_eq_toNat_cond] at h ⊢
  have := a.isLt
  split at h
  · rw [if_pos (by assumption)]
  · omega

/-- Where both operands are not negative, or under `trunc`, the quotient is the one toward zero and the remainder has
the dividend's sign (R179). -/
theorem quotientSigned_exact {p : DivNumerics} {a b : Word} (freeHi freeLo : Word) (h : Divides a b)
    (hp : p = .trunc ∨ 0 ≤ a.toInt ∧ 0 ≤ b.toInt) :
    (quotientSigned p freeHi freeLo a b).1.toInt = a.toInt.tmod b.toInt ∧
      (quotientSigned p freeHi freeLo a b).2.toInt = a.toInt.tdiv b.toInt := by
  unfold quotientSigned
  rw [if_neg h.1, if_neg h.2]
  split
  · next negative =>
    obtain rfl : p = .trunc := hp.resolve_right (by omega)
    exact ⟨toInt_ofInt_tmod a b, toInt_ofInt_tdiv h⟩
  · next nonnegative =>
    have mod := toInt_ofInt_tmod a b
    have div := toInt_ofInt_tdiv h
    rw [toInt_eq_toNat_of_nonneg (a := a) (by omega), toInt_eq_toNat_of_nonneg (a := b) (by omega)] at mod div ⊢
    rw [← Int.ofNat_tmod, BitVec.ofInt_natCast] at mod
    rw [← Int.ofNat_tdiv, BitVec.ofInt_natCast] at div
    exact ⟨mod, div⟩

/-- Whatever the setting, the quotient is rounded one way or the other (R179 b). -/
theorem quotientSigned_rounded {a b : Word} (p : DivNumerics) (freeHi freeLo : Word) (h : Divides a b) :
    (quotientSigned p freeHi freeLo a b).2.toInt = a.toInt.tdiv b.toInt ∨
      (quotientSigned p freeHi freeLo a b).2.toInt = a.toInt.fdiv b.toInt := by
  by_cases exactly : p = .trunc ∨ 0 ≤ a.toInt ∧ 0 ≤ b.toInt
  · exact .inl (quotientSigned_exact freeHi freeLo h exactly).2
  · rw [not_or] at exactly
    obtain ⟨untrunc, negative⟩ := exactly
    unfold quotientSigned
    rw [if_neg h.1, if_neg h.2, if_pos (by omega)]
    cases p with
    | trunc => exact absurd rfl untrunc
    | unspecified =>
      cases freeLo.getLsbD 0
      · exact .inl (toInt_ofInt_tdiv h)
      · exact .inr (toInt_ofInt_fdiv h)

theorem quotientUnsigned_toNat {a b : Word} (freeHi freeLo : Word) (h : b ≠ 0#32) :
    (quotientUnsigned freeHi freeLo a b).1.toNat = a.toNat % b.toNat ∧
      (quotientUnsigned freeHi freeLo a b).2.toNat = a.toNat / b.toNat := by
  have ha := a.isLt
  have div := Nat.div_le_self a.toNat b.toNat
  have mod := Nat.mod_le a.toNat b.toNat
  rw [quotientUnsigned, if_neg h, BitVec.toNat_ofNat, BitVec.toNat_ofNat]
  exact ⟨Nat.mod_eq_of_lt (by omega), Nat.mod_eq_of_lt (by omega)⟩

/-- Settles O26: each division is a write of `hi` and `lo` in every state, and where the operands divide, quotient and
remainder make up the dividend. -/
theorem divideResults : Obligations.DivideResults := by
  intro s rs rt
  have exactly {p} := quotientSigned_exact (p := p) (a := s.x rs) (b := s.x rt) (s.draw .remainder) (s.draw .quotient)
  refine ⟨s.setHiLo_spec _ _ _ ⟨fun ha hb => ?_, fun hb _ noMin => ?_⟩, s.setHiLo_spec _ _ _ fun hb => ?_⟩
  · have divides : Divides (s.x rs) (s.x rt) := by
      refine ⟨fun e => ?_, fun e => ?_⟩
      · simp [e] at hb
      · simp [e.1] at ha
    obtain ⟨mod, div⟩ := exactly divides (.inr ⟨ha, hb.le⟩)
    rw [mod, div]
    exact ⟨Int.tdiv_mul_add_tmod _ _, Int.tmod_nonneg _ ha, Int.tmod_lt_of_pos _ hb⟩
  · have divides : Divides (s.x rs) (s.x rt) := by
      rw [Divides, ← toInt_eq_min_iff, ← toInt_eq_neg_one_iff]
      exact ⟨fun e => hb (by simp [e]), noMin⟩
    refine ⟨fun trunc => ?_, fun _ => quotientSigned_rounded _ _ _ divides⟩
    obtain ⟨mod, div⟩ := exactly divides (.inl trunc)
    rw [mod, div]
    refine ⟨Int.tdiv_mul_add_tmod _ _, ?_, tmod_sign _ _⟩
    rw [Int.natAbs_tmod]
    exact Nat.mod_lt _ (by omega)
  · obtain ⟨mod, div⟩ := quotientUnsigned_toNat (a := s.x rs) (s.draw .remainder) (s.draw .quotient) hb
    rw [mod, div]
    exact ⟨Nat.div_add_mod' _ _, Nat.mod_lt _ (by bv_omega)⟩

end Sys2Proof.Machine
end

section
/-! PROOFS. The pseudoinstructions that compute: a logic for their words. Between two words the machine is described by
what its general registers, `hi` and `lo` read as and by how many words have passed; each kind of word has one rule that
says how the description changes (R118, R121, R122, R471 f). -/

namespace Sys2Proof

/-! The pieces of an expansion and their words. -/

theorem layout_cons (delay : Bool) (it : Item) (rest : List Item) :
    ∃ ws, ws.length = it.size delay ∧ layout delay (it :: rest) = ws ++ layout delay rest := by
  cases it with
  | word i => exact ⟨[i], rfl, rfl⟩
  | branch i => exact ⟨i :: slotNop delay, by cases delay <;> rfl, rfl⟩
  | skip mk n => exact ⟨mk _ :: slotNop delay, by cases delay <;> rfl, rfl⟩

theorem Item.skip_size (mk : Half → Instr) (n : Nat) (delay : Bool) :
    (Item.skip mk n).size delay = 1 + if delay = true then 1 else 0 := by
  cases delay <;> rfl

/-- The words of the first `n` pieces come before those of the others, and `itemsSize` counts them. -/
theorem layout_drop (delay : Bool) (n : Nat) (items : List Item) :
    ∃ ws, ws.length = itemsSize delay n items ∧ layout delay items = ws ++ layout delay (items.drop n) := by
  induction items generalizing n with
  | nil => exact ⟨[], by cases n <;> rfl, by cases n <;> rfl⟩
  | cons it rest ih =>
    cases n with
    | zero => exact ⟨[], rfl, rfl⟩
    | succ n =>
      obtain ⟨ws, length, words⟩ := layout_cons delay it rest
      obtain ⟨ws', length', words'⟩ := ih n
      refine ⟨ws ++ ws', by rw [List.length_append, length, length', itemsSize], ?_⟩
      rw [words, words', List.append_assoc, List.drop_succ_cons]

theorem itemsSize_le (delay : Bool) (n : Nat) (items : List Item) : itemsSize delay n items ≤ 2 * n := by
  induction items generalizing n with
  | nil => cases n <;> exact Nat.zero_le _
  | cons it rest ih =>
    cases n with
    | zero => exact Nat.zero_le _
    | succ n =>
      have piece : it.size delay ≤ 2 := by cases it <;> cases delay <;> simp [Item.size]
      have := ih n
      rw [itemsSize]
      omega

namespace Machine

/-- A branch over the next `n` words (R106). -/
theorem branchTarget_ofNat (pc : Word) (n : Nat) (h : n < 2 ^ 15) :
    branchTarget pc (BitVec.ofNat 16 n) = pc + BitVec.ofNat 32 (4 * (n + 1)) := by
  have small : (BitVec.ofNat 16 n).toNat = n := by
    rw [BitVec.toNat_ofNat]
    omega
  have sign : (BitVec.ofNat 16 n).msb = false := by
    rw [BitVec.msb_eq_decide, small]
    simpa using h
  have field : signImm (BitVec.ofNat 16 n) = BitVec.ofNat 32 n := by
    rw [signImm, BitVec.signExtend_eq_setWidth_of_msb_false sign,
      BitVec.setWidth_ofNat_of_le_of_lt (by decide) (by omega)]
  rw [branchTarget, field]
  apply BitVec.eq_of_toNat_eq
  simp only [BitVec.toNat_add, BitVec.toNat_shiftLeft, BitVec.toNat_ofNat, Nat.shiftLeft_eq]
  omega

theorem toNat_add_sub (a : Word) (n : Nat) (h : n < 2 ^ 32) : (a + BitVec.ofNat 32 n - a).toNat = n := by
  rw [add_sub_cancel_left, BitVec.toNat_ofNat, Nat.mod_eq_of_lt h]

/-- What a branch that links no register changes of the state, and the `nop` in its slot: where control goes on, what is
pending, and the number of the next free draw (R231, R471). -/
def State.sentTo (t : State) (pc : Word) (target : Option Word) (count : Nat) : State :=
  { t with
    pc := pc
    pendingTarget := target
    loadPending := none
    freeCount := count }

theorem State.branch_without_slots (t : State) (taken : Bool) (target : Word) (h : t.params.branchDelaySlot = false) :
    t.branch taken target = .done (t.sentTo (if taken then target else t.pc + 4#32) none (t.freeCount + 1)) := by
  rw [t.branch_eq_done _ _ (t.inDelaySlot_of_no_slots h), h]
  simp [State.sentTo]

theorem State.branch_with_slots (t : State) (taken : Bool) (target : Word) (h : t.params.branchDelaySlot = true)
    (settled : t.Settled) : t.branch taken target =
      .done (t.sentTo (t.pc + 4#32) (some (if taken then target else t.pc + 8#32)) (t.freeCount + 1)) := by
  rw [t.branch_eq_done _ _ settled.inDelaySlot, h]
  simp [State.sentTo]

/-- The `nop` in the slot goes on at the branch's target (R471 b). -/
theorem nop_in_slot (t : State) (pc target : Word) (count : Nat) (h : t.params.branchDelaySlot = true) :
    wordEffect (.sll 0#5 0#5 0#5) (t.sentTo pc (some target) count) = .done (t.sentTo target none (count + 1)) := by
  have next : (t.sentTo pc (some target) count).nextPc = target := by
    simp [State.nextPc, State.slotTarget, State.sentTo, h]
  exact congrArg (fun p => Effect.done (t.sentTo p none (count + 1))) next

/-- Where `skip` leads: past its own words, and past those of the `k` pieces where it is taken (R121, R471 f). -/
theorem skip_target (pc : Word) (delay taken : Bool) (mk : Half → Instr) (k : Nat) (hk : k < 1000) (rest : List Item) :
    (if taken then branchTarget pc (BitVec.ofNat 16 ((slotNop delay).length + itemsSize delay k rest))
      else pc + BitVec.ofNat 32 (4 * (Item.skip mk k).size delay)) =
      pc + BitVec.ofNat 32 (4 * ((Item.skip mk k).size delay + itemsSize delay (if taken then k else 0) rest)) := by
  have own : (slotNop delay).length + 1 = (Item.skip mk k).size delay := by cases delay <;> rfl
  have few : (slotNop delay).length < 2 := by cases delay <;> decide
  have short := itemsSize_le delay k rest
  cases taken with
  | false => rfl
  | true => rw [if_pos rfl, if_pos rfl, branchTarget_ofNat _ _ (by omega), ← own, add_right_comm]

/-- The branch `skip` and the `nop` in its slot: the words go on after the `k` pieces passed over where it is taken, and
at the next piece where it is not (R121, R471 f). -/
theorem runWords_skipItem {t : State} {delay taken : Bool} {mk : Half → Instr} {k : Nat}
    (slots : t.params.branchDelaySlot = delay) (settled : t.Settled)
    (effect : ∀ off, wordEffect (mk off) t = t.branch taken (branchTarget t.pc off)) (hk : k < 1000) (fuel : Nat)
    (rest : List Item) :
    ∃ count, runWords (fuel + (Item.skip mk k).size delay) (layout delay (.skip mk k :: rest)) t =
      runWords fuel (layout delay (rest.drop (if taken then k else 0)))
        (t.sentTo (t.pc + BitVec.ofNat 32 (4 * ((Item.skip mk k).size delay +
          itemsSize delay (if taken then k else 0) rest))) none count) := by
  obtain ⟨passed, size, words⟩ := layout_drop delay (if taken then k else 0) rest
  have short : passed.length ≤ 2 * k := by
    have := itemsSize_le delay k rest
    rw [size]
    cases taken
    · exact Nat.zero_le _
    · exact this
  have target := skip_target t.pc delay taken mk k hk rest
  have drop : (layout delay rest).drop passed.length = layout delay (rest.drop (if taken then k else 0)) := by
    rw [words, List.drop_left]
  rw [← size] at target ⊢
  rw [← drop, ← target]
  cases delay with
  | false =>
    have own : (Item.skip mk k).size false = 1 := rfl
    refine ⟨_, runWords_skip fuel passed.length _ _ t _ ((effect _).trans (t.branch_without_slots taken _ slots)) ?_⟩
    calc _ = 4 * ((Item.skip mk k).size false + passed.length) :=
          (congrArg (fun p => (p - t.pc).toNat) target).trans (toNat_add_sub _ _ (by rw [own]; omega))
      _ = 4 * (passed.length + 1) := congrArg (4 * ·) (Nat.add_comm _ _)
  | true =>
    have sent off := (effect off).trans (t.branch_with_slots taken _ slots settled)
    refine ⟨_, (runWords_next (fuel + 1) _ _ t _ (sent _) rfl).trans
      (runWords_skip fuel passed.length _ _ _ _ (nop_in_slot t _ _ _ slots) ?_)⟩
    calc _ = (t.pc + 4#32 + BitVec.ofNat 32 (4 * (passed.length + 1)) - (t.pc + 4#32)).toNat := by
          refine congrArg (fun p => (p - (t.pc + 4#32)).toNat) (target.trans ?_)
          rw [BitVec.add_assoc, ← BitVec.ofNat_add, Item.size, Nat.mul_add, Nat.mul_add]
          congr 2
          simp +arith
      _ = 4 * (passed.length + 1) := toNat_add_sub _ _ (by omega)

/-! What the words compute with. -/

/-- What the general registers read as, and `hi` and `lo`. -/
structure Regs where
  x : RegIdx → Word
  hi : Word
  lo : Word

/-- What the registers of a state read as. -/
def State.regs (s : State) : Regs := ⟨s.x, s.hi, s.lo⟩

/-- A general register is written; register 0 is not (R21). -/
def Regs.write (m : Regs) (rd : RegIdx) (v : Word) : Regs :=
  { m with x := fun r => if r = rd ∧ rd ≠ 0#5 then v else m.x r }

@[simp] theorem State.regs_x (s : State) (r : RegIdx) : s.regs.x r = s.x r := rfl

@[simp] theorem State.regs_hi (s : State) : s.regs.hi = s.hi := rfl

@[simp] theorem State.regs_lo (s : State) : s.regs.lo = s.lo := rfl

@[simp] theorem Regs.write_hi (m : Regs) (rd : RegIdx) (v : Word) : (m.write rd v).hi = m.hi := rfl

@[simp] theorem Regs.write_lo (m : Regs) (rd : RegIdx) (v : Word) : (m.write rd v).lo = m.lo := rfl

theorem Regs.write_x_same (m : Regs) {rd : RegIdx} (v : Word) (h : rd ≠ 0#5) : (m.write rd v).x rd = v :=
  if_pos ⟨rfl, h⟩

theorem Regs.write_x_other (m : Regs) {rd r : RegIdx} (v : Word) (h : r ≠ rd) : (m.write rd v).x r = m.x r :=
  if_neg fun e => h e.1

@[simp] theorem Regs.write_x_zero (m : Regs) (rd : RegIdx) (v : Word) : (m.write rd v).x 0#5 = m.x 0#5 :=
  if_neg fun e => e.2 e.1.symm

@[simp] theorem Regs.write_x_at (m : Regs) (v : Word) : (m.write regAt v).x regAt = v :=
  m.write_x_same v (by decide)

/-- Of two writes of one register the second stays. -/
theorem Regs.write_write (m : Regs) (rd : RegIdx) (v w : Word) : (m.write rd v).write rd w = m.write rd w := by
  unfold Regs.write
  congr 1
  funext r
  dsimp only
  split_ifs <;> rfl

/-- A register written and then written with what depends on it: the second write stays, and register 0 is not
written. -/
theorem Regs.write_write_read (m : Regs) (rd : RegIdx) (v : Word) (f : Word → Word) :
    (m.write rd v).write rd (f ((m.write rd v).x rd)) = m.write rd (f v) := by
  by_cases h : rd = 0#5
  · simp [Regs.write, h]
  · rw [m.write_x_same v h, m.write_write]

/-! The constants of `li` (R200). -/

theorem signImm_low (k : Word) (h : -32768 ≤ k.toInt ∧ k.toInt ≤ 32767) : signImm (k.extractLsb' 0 16) = k := by
  apply BitVec.eq_of_toInt_eq
  have := k.isLt
  rw [BitVec.toInt_eq_toNat_cond] at h
  rw [toInt_signImm, BitVec.toInt_eq_toNat_cond, BitVec.toInt_eq_toNat_cond, BitVec.extractLsb'_toNat,
    Nat.shiftRight_zero]
  omega

theorem zeroImm_low (k : Word) (h : 32768 ≤ k.toNat ∧ k.toNat ≤ 65535) : zeroImm (k.extractLsb' 0 16) = k := by
  apply BitVec.eq_of_toNat_eq
  simp [zeroImm, BitVec.extractLsb'_toNat]
  omega

theorem upperImm_or_zeroImm (k : Word) : upperImm (k.extractLsb' 16 16) ||| zeroImm (k.extractLsb' 0 16) = k := by
  have low : zeroImm (k.extractLsb' 0 16) = 0#16 ++ k.extractLsb' 0 16 := BitVec.setWidth_eq_append (by decide)
  rw [upperImm, low, BitVec.or_append, BitVec.or_zero, BitVec.zero_or,
    BitVec.extractLsb'_append_extractLsb'_eq_extractLsb' (by decide), BitVec.extractLsb'_eq_self]

theorem upperImm_high (k : Word) (h : k.extractLsb' 0 16 = 0#16) : upperImm (k.extractLsb' 16 16) = k := by
  have := upperImm_or_zeroImm k
  rwa [h, zeroImm, BitVec.setWidth_zero, BitVec.or_zero] at this

/-! Between two words. -/

/-- With no load in its delay, registers that hold the same read the same. -/
theorem State.Settled.x_congr {s t : State} (hs : s.Settled) (ht : t.Settled) (h : t.gpr = s.gpr) : t.x = s.x := by
  funext r
  rw [t.x_of_settled r (ht.gprDelayed r), s.x_of_settled r (hs.gprDelayed r), h]

/-- The state `t` that `n` words have made of `s`: its registers read as `m` says, and nothing else has changed. Before
the first word a load may be pending where loads have no delay, so that `t` is `s` itself is kept for that case. -/
structure Computed (s t : State) (n : Nat) (m : Regs) : Prop where
  regs : t.regs = m
  zero : readSlot t.gpr 0#5 = readSlot s.gpr 0#5
  fp : SameFp s t
  memory : SameMemory s t
  system : SameSystem s t
  pc : t.pc = s.pc + BitVec.ofNat 32 (4 * n)
  settled : t.Settled
  first : n = 0 → t = s
  retired : 0 < n → t.pendingTarget = none ∧ t.loadPending = none

namespace Computed

theorem start {s : State} (hs : s.Settled) : Computed s s 0 s.regs :=
  ⟨rfl, rfl, .refl s, .refl s, .refl s, (BitVec.add_zero _).symm, hs, fun _ => rfl, nofun⟩

variable {s t u : State} {n : Nat} {m m' : Regs}

/-- `k` more words have passed. -/
theorem advance (c : Computed s t n m) {k : Nat} (hk : 0 < k) (regs : u.regs = m')
    (zero : readSlot u.gpr 0#5 = readSlot t.gpr 0#5) (fp : SameFp t u) (memory : SameMemory t u)
    (system : SameSystem t u) (pc : u.pc = t.pc + BitVec.ofNat 32 (4 * k)) (target : u.pendingTarget = none)
    (load : u.loadPending = none) : Computed s u (n + k) m' := by
  refine ⟨regs, zero.trans c.zero, c.fp.trans fp, c.memory.trans memory, c.system.trans system, ?_,
    ⟨fun _ => target, fun _ => load⟩, fun none => absurd none (by omega), fun _ => ⟨target, load⟩⟩
  rw [pc, c.pc, BitVec.add_assoc, ← BitVec.ofNat_add, Nat.mul_add]

/-- A general register has been written. -/
theorem write (c : Computed s t n m) (rd : RegIdx) (v : Word) :
    Computed s (t.setX rd v).retire (n + 1) (m.write rd v) := by
  obtain ⟨_, ⟨⟩, gpr, hiLo, fp, memory, system, goesOn, load⟩ := t.write_spec rd v
  refine c.advance Nat.one_pos ?_ ?_ fp memory system (goesOn.pc_of_settled c.settled) goesOn.1 load
  · have settled : (t.setX rd v).Settled := by simpa [State.Settled] using c.settled
    have reads : (t.setX rd v).retire.x = (t.regs.write rd v).x :=
      (settled.x_congr (t := (t.setX rd v).retire) ⟨fun _ => rfl, fun _ => rfl⟩ rfl).trans
        (funext fun r => t.x_setX rd r v (c.settled.gprDelayed r))
    rw [← c.regs]
    exact congr (congrArg₂ Regs.mk reads hiLo.1) hiLo.2
  · exact (gpr 0#5).trans (if_neg fun e => e.2 rfl)

/-- `hi` and `lo` have been written. -/
theorem writeHiLo (c : Computed s t n m) (h l : Word) :
    Computed s (t.setHiLo h l).retire (n + 1) { m with hi := h, lo := l } := by
  have goesOn := t.goesOn_retireWith (t.setHiLo h l) none rfl rfl rfl
  refine c.advance Nat.one_pos ?_ rfl ⟨fun _ => rfl, rfl⟩ ⟨fun _ => rfl, rfl⟩ ⟨rfl, rfl, rfl, rfl, rfl, rfl, rfl, rfl⟩
    (goesOn.pc_of_settled c.settled) rfl rfl
  have reads : (t.setHiLo h l).retire.x = t.x :=
    c.settled.x_congr (t := (t.setHiLo h l).retire) ⟨fun _ => rfl, fun _ => rfl⟩ rfl
  rw [← c.regs]
  exact congrArg (Regs.mk · h l) reads

/-- A branch over words of the expansion has been passed, and its slot. -/
theorem passed (c : Computed s t n m) {k : Nat} (hk : 0 < k) (count : Nat) :
    Computed s (t.sentTo (t.pc + BitVec.ofNat 32 (4 * k)) none count) (n + k) m := by
  refine c.advance hk ?_ rfl ⟨fun _ => rfl, rfl⟩ ⟨fun _ => rfl, rfl⟩ ⟨rfl, rfl, rfl, rfl, rfl, rfl, rfl, rfl⟩ rfl rfl
    rfl
  rw [← c.regs]
  exact congrArg (Regs.mk · t.hi t.lo) (c.settled.x_congr ⟨fun _ => rfl, fun _ => rfl⟩ rfl)

theorem x_eq (c : Computed s t n m) : t.x = m.x := congrArg Regs.x c.regs

theorem hi_eq (c : Computed s t n m) : t.hi = m.hi := congrArg Regs.hi c.regs

theorem lo_eq (c : Computed s t n m) : t.lo = m.lo := congrArg Regs.lo c.regs

theorem readSlot_eq (c : Computed s t n m) {r : RegIdx} (hr : r ≠ 0#5) : readSlot t.gpr r = m.x r := by
  rw [← c.x_eq, t.x_of_settled r (c.settled.gprDelayed r), if_neg hr]

/-- A register that reads as at first holds what it held. -/
theorem readSlot_same (c : Computed s t n m) (hs : s.Settled) {r : RegIdx} (h : r ≠ 0#5 → m.x r = s.x r) :
    readSlot t.gpr r = readSlot s.gpr r := by
  by_cases hr : r = 0#5
  · exact hr ▸ c.zero
  · rw [c.readSlot_eq hr, h hr, s.x_of_settled r (hs.gprDelayed r), if_neg hr]

end Computed

/-! Triples. -/

/-- A triple of the logic, over a run that begins in `s`: from every state that `m` describes after `n` of the
`total` words, the words of `items` lead to an effect with the property `P`. -/
def Leads (s : State) (total n : Nat) (m : Regs) (items : List Item) (P : Effect → Prop) : Prop :=
  ∀ t, Computed s t n m → n + (layout s.params.branchDelaySlot items).length = total →
    ∀ fuel, (layout s.params.branchDelaySlot items).length ≤ fuel →
      P (runWords fuel (layout s.params.branchDelaySlot items) t)

/-- The words have all run, and have left the registers so that `D` holds. -/
def Finishes (s : State) (total : Nat) (D : Regs → Prop) (e : Effect) : Prop :=
  ∃ t m, e = .done t ∧ Computed s t total m ∧ D m

/-- After `k` words, which have left the registers so that `D` holds, an exception is taken. -/
def RaisesAfter (s : State) (x : Exc) (k : Nat) (D : Regs → Prop) (e : Effect) : Prop :=
  ∃ t m, e = t.raise x 0#32 ∧ Computed s t k m ∧ D m

/-- What is known of the registers once an operand has been loaded: `rt` reads as the operand, and of the others only
`$at` may have been written, for a constant (R118). -/
structure Operand (s : State) (src : Src2) (rt : RegIdx) (m : Regs) : Prop where
  value : m.x rt = s.srcValue src
  others : ∀ r, (Src2.isConst src = true → r ≠ regAt) → m.x r = s.x r
  hi : m.hi = s.hi
  lo : m.lo = s.lo

namespace Leads

variable {s : State} {total n : Nat} {m m' : Regs} {rest : List Item} {P : Effect → Prop} {i : Instr} {rd : RegIdx}

/-- No words are left. -/
theorem finish {D : Regs → Prop} (hD : D m) : Leads s total n m [] (Finishes s total D) := by
  rintro t c rfl fuel -
  exact ⟨t, m, runWords_nil fuel t, c, hD⟩

/-- A word that completes and goes on to the next. -/
theorem word (h : ∀ t, Computed s t n m → ∃ u m', wordEffect i t = .done u ∧ Computed s u (n + 1) m' ∧
    Leads s total (n + 1) m' rest P) : Leads s total n m (.word i :: rest) P := by
  intro t c ht fuel hf
  rw [layout, List.length_cons] at ht hf
  obtain ⟨fuel, rfl⟩ := Nat.exists_eq_add_of_le' (Nat.one_le_of_lt hf)
  obtain ⟨u, m', hu, c', next⟩ := h t c
  have pc : u.pc = t.pc + 4#32 := by
    rw [c'.pc, c.pc, BitVec.add_assoc, Nat.mul_succ, BitVec.ofNat_add]
  rw [layout, runWords_next fuel i _ t u hu pc]
  exact next u c' (by omega) fuel (by omega)

/-- A word that writes a general register. -/
theorem write (f : Regs → Word) (hi : ∀ t, wordEffect i t = t.write rd (f t.regs))
    (next : Leads s total (n + 1) (m.write rd (f m)) rest P) : Leads s total n m (.word i :: rest) P :=
  word fun t c => ⟨_, _, (hi t).trans (by rw [c.regs]; rfl), c.write rd (f m), next⟩

/-- A word that writes a general register with a checked result, one that fits. -/
theorem checked {v : Word} (f : Regs → Option Word) (hi : ∀ t, wordEffect i t = t.writeChecked rd (f t.regs))
    (fits : f m = some v) (next : Leads s total (n + 1) (m.write rd v) rest P) :
    Leads s total n m (.word i :: rest) P := by
  refine word fun t c => ⟨_, _, ?_, c.write rd v, next⟩
  rw [hi t, c.regs, fits]
  rfl

/-- A word that writes `hi` and `lo` with two words of which `p` is known. -/
theorem writeHiLo (f : State → Word × Word) (p : Word → Word → Prop) (hi : ∀ t, wordEffect i t = t.writeHiLo (f t))
    (hp : ∀ t, Computed s t n m → p (f t).1 (f t).2)
    (next : ∀ h l, p h l → Leads s total (n + 1) { m with hi := h, lo := l } rest P) :
    Leads s total n m (.word i :: rest) P :=
  word fun t c => ⟨_, _, hi t, c.writeHiLo _ _, next _ _ (hp t c)⟩

/-- A word that takes an exception ends the expansion (R121 d). -/
theorem raise {e : Exc} {D : Regs → Prop} (h : ∀ t, Computed s t n m → wordEffect i t = t.raise e 0#32) (hD : D m) :
    Leads s total n m (.word i :: rest) (RaisesAfter s e n D) := by
  intro t c ht fuel hf
  rw [layout, List.length_cons] at hf
  obtain ⟨fuel, rfl⟩ := Nat.exists_eq_add_of_le' (Nat.one_le_of_lt hf)
  exact ⟨t, m, runWords_trap fuel i _ t _ (h t c), c, hD⟩

/-- The branch `skip`: over the next `k` pieces where it is taken, over none where it is not (R121, R471 f). -/
theorem skip {mk : Half → Instr} {k : Nat} (b : Regs → Bool) (taken : Bool)
    (hi : ∀ t off, wordEffect (mk off) t = t.branch (b t.regs) (branchTarget t.pc off)) (hb : b m = taken)
    (hk : k < 1000)
    (next : Leads s total (n + ((Item.skip mk k).size s.params.branchDelaySlot +
        itemsSize s.params.branchDelaySlot (if taken then k else 0) rest)) m
      (rest.drop (if taken then k else 0)) P) :
    Leads s total n m (.skip mk k :: rest) P := by
  intro t c ht fuel hf
  have effect off : wordEffect (mk off) t = t.branch taken (branchTarget t.pc off) := by rw [hi t, c.regs, hb]
  obtain ⟨before, size, words⟩ := layout_cons s.params.branchDelaySlot (.skip mk k) rest
  obtain ⟨passed, size', words'⟩ := layout_drop s.params.branchDelaySlot (if taken then k else 0) rest
  rw [words, List.length_append, size] at ht hf
  rw [words', List.length_append, size'] at ht hf
  obtain ⟨fuel, rfl⟩ := Nat.exists_eq_add_of_le' (Nat.le_of_add_right_le hf)
  obtain ⟨count, run⟩ := runWords_skipItem (congrArg Params.branchDelaySlot c.system.1) c.settled effect hk fuel rest
  have own := Item.skip_size mk k s.params.branchDelaySlot
  rw [run]
  exact next _ (c.passed (by omega) count) (by omega) fuel (by omega)

/-- The words of `li` (R200). -/
theorem li (rd : RegIdx) (k : Word) (zero : m.x 0#5 = 0#32)
    (next : Leads s total (n + (liWords rd k).length) (m.write rd k) rest P) :
    Leads s total n m ((liWords rd k).map .word ++ rest) P := by
  unfold liWords at next ⊢
  split_ifs at next ⊢ with small half high
  · refine .write (fun m => m.x 0#5 + signImm (k.extractLsb' 0 16)) (fun _ => rfl) ?_
    rwa [zero, BitVec.zero_add, signImm_low k small]
  · refine .write (fun m => m.x 0#5 ||| zeroImm (k.extractLsb' 0 16)) (fun _ => rfl) ?_
    rwa [zero, BitVec.zero_or, zeroImm_low k half]
  · refine .write (fun _ => upperImm (k.extractLsb' 16 16)) (fun _ => rfl) ?_
    rwa [upperImm_high k high]
  · refine .write (fun _ => upperImm (k.extractLsb' 16 16)) (fun _ => rfl)
      (.write (fun m => m.x rd ||| zeroImm (k.extractLsb' 0 16)) (fun _ => rfl) ?_)
    rwa [m.write_write_read rd _ (· ||| zeroImm (k.extractLsb' 0 16)), upperImm_or_zeroImm]

/-- The words of a three-operand pseudoinstruction come after those that load its operand (R118). -/
theorem operand {src : Src2} {f : RegIdx → List Item}
    (next : ∀ rt m, Operand s src rt m → Leads s total (constantWords src) m (f rt) P) :
    Leads s total 0 s.regs (withSrc src f) P := by
  cases src with
  | reg r => exact next r s.regs ⟨rfl, fun _ _ => rfl, rfl, rfl⟩
  | const k =>
    refine .li regAt k s.x_zero ?_
    rw [Nat.zero_add]
    exact next regAt _ ⟨s.regs.write_x_at k, fun r hr => s.regs.write_x_other k (hr rfl), rfl, rfl⟩

end Leads

/-! After the words. -/

theorem ne_regAt {r : RegIdx} (h : notAt r = true) : r ≠ regAt := by simpa [notAt] using h

/-- How many words a pseudoinstruction has on the machine of `s` (R121, R471 f). -/
def State.wordCount (s : State) (i : Instr) : Nat := (expand s.params.bigEndian s.params.branchDelaySlot i).length

/-- A pseudoinstruction's words, from the first on, lead to an effect with the property `P`. -/
def LeadsTo (s : State) (i : Instr) (P : Effect → Prop) : Prop :=
  Leads s (s.wordCount i) 0 s.regs (expansion s.params.bigEndian i) P

theorem LeadsTo.runWords {s : State} {i : Instr} {P : Effect → Prop} (run : LeadsTo s i P) (hs : s.Settled) :
    P (runWords (s.wordCount i) (expand s.params.bigEndian s.params.branchDelaySlot i) s) :=
  run s (.start hs) (Nat.zero_add _) _ le_rfl

/-- The result of a pseudoinstruction in its registers: `rd` reads as `v` unless it is register 0, only `$at` may have
been written besides where `usesAt`, and `p` holds of `hi` and `lo`. -/
structure Result (s : State) (rd : RegIdx) (v : Word) (usesAt : Bool) (p : Word → Word → Prop) (m : Regs) : Prop where
  value : rd ≠ 0#5 → m.x rd = v
  others : ∀ r, r ≠ rd → (usesAt = true → r ≠ regAt) → m.x r = s.x r
  hiLo : p m.hi m.lo

/-- The registers in the terms of `PseudoWrites`; what the end of a pseudoinstruction puts into `$at` does not reach
`rd`, which is another register (R121 b). -/
theorem pseudoWrites_of_finishes {s : State} {i : Instr} {rd : RegIdx} {v : Word} {usesAt : Bool}
    {p : Word → Word → Prop} (hs : s.Settled) (hp : i.isPseudo = true) (hw : wellFormed i = true)
    (hAt : usesAt = false → ∀ free, assemblerTempAfter i free = none) (hd : notAt rd = true)
    (run : Finishes s (s.wordCount i) (Result s rd v usesAt p)
      (runWords (s.wordCount i) (expand s.params.bigEndian s.params.branchDelaySlot i) s)) :
    PseudoWrites i s rd v usesAt p := by
  obtain ⟨t, m, done, c, value, others, values⟩ := run
  have words : 0 < s.wordCount i := List.length_pos_of_ne_nil (expand_ne_nil _ _ i)
  have apart := ne_regAt hd
  obtain ⟨gpr, hiLo, fp, memory, system, pc, target, load⟩ := t.afterPseudo_spec i usesAt hAt
  refine ⟨_, exec_of_runWords hp hw rfl done, ⟨fun hr => ?_, fun r hr => ?_⟩, ?_, c.fp.trans fp, c.memory.trans memory,
    c.system.trans system, pc.trans c.pc, target.trans (c.retired words).1, load.trans (c.retired words).2⟩
  · rw [gpr rd fun _ => apart, c.readSlot_eq hr, value hr]
  · rcases hr with rfl | ⟨hrd, hrAt⟩
    · rw [gpr 0#5 fun _ => by decide, c.zero]
    · rw [gpr r hrAt, c.readSlot_same hs fun _ => others r hrd hrAt]
  · rw [hiLo.1, hiLo.2, c.hi_eq, c.lo_eq]
    exact values

/-- A pseudoinstruction whose words all run, leaving its result (R121, R122). -/
theorem pseudoWrites_of_leadsTo {s : State} {i : Instr} {rd : RegIdx} {v : Word} {usesAt : Bool}
    {p : Word → Word → Prop} (hs : s.Settled) (hp : i.isPseudo = true) (hw : wellFormed i = true)
    (hAt : usesAt = false → ∀ free, assemblerTempAfter i free = none) (hd : notAt rd = true)
    (run : LeadsTo s i (Finishes s (s.wordCount i) (Result s rd v usesAt p))) : PseudoWrites i s rd v usesAt p :=
  pseudoWrites_of_finishes hs hp hw hAt hd (run.runWords hs)

/-- The same where the words choose a free value `a` on their way, and the result depends on it. -/
theorem exists_pseudoWrites_of_leadsTo {α : Type} {s : State} {i : Instr} {rd : RegIdx} {Q : α → Prop} {v : α → Word}
    {usesAt : Bool} {p : α → Word → Word → Prop} (hs : s.Settled) (hp : i.isPseudo = true) (hw : wellFormed i = true)
    (hAt : usesAt = false → ∀ free, assemblerTempAfter i free = none) (hd : notAt rd = true)
    (run : LeadsTo s i (Finishes s (s.wordCount i) fun m => ∃ a, Q a ∧ Result s rd (v a) usesAt (p a) m)) :
    ∃ a, Q a ∧ PseudoWrites i s rd (v a) usesAt (p a) := by
  obtain ⟨t, m, done, c, a, hQ, result⟩ := run.runWords hs
  exact ⟨a, hQ, pseudoWrites_of_finishes hs hp hw hAt hd ⟨t, m, done, c, result⟩⟩

/-- What the end of a pseudoinstruction in an exception leaves alone, from `t`, the state in which it is taken; `Rdest`
of `mulo` is scratch then (R121 e, R178). -/
structure Abandons (i : Instr) (t u : State) : Prop where
  gpr : ∀ r, (∀ rd rs src, i = .pMulo rd rs src → r ≠ rd) → readSlot u.gpr r = readSlot t.gpr r
  hiLo : SameHiLo t u
  fp : SameFp t u
  memory : SameMemory t u
  load : u.loadPending = t.loadPending

/-- An exception inside a pseudoinstruction changes of the state it is taken in no more than the scratch register. -/
theorem State.trappedPseudo_eq (u : State) (i : Instr) : ∃ g count,
    u.trappedPseudo i = { u with gpr := g, freeCount := count } ∧
      ∀ r, (∀ rd rs src, i = .pMulo rd rs src → r ≠ rd) → readSlot g r = readSlot u.gpr r := by
  unfold State.trappedPseudo
  split
  · next rd rs src =>
    refine ⟨(u.setX rd (u.draw .muloScratch)).gpr, u.freeCount + 1, by rw [State.setX_eq], fun r hr => ?_⟩
    rw [u.readSlot_setX, if_neg fun e => hr rd rs src rfl e.1]
  · exact ⟨_, _, rfl, fun _ _ => rfl⟩

/-- A pseudoinstruction whose words end in an exception that records no address (R121 d, e). -/
theorem pseudoFaults_of_leadsTo {s : State} {i : Instr} {x : Exc} {k : Nat} {D : Regs → Prop} {done : State → Prop}
    (hs : s.Settled) (hp : i.isPseudo = true) (hw : wellFormed i = true) (hx : x.recordsAddress = false)
    (run : LeadsTo s i (RaisesAfter s x k D))
    (hd : ∀ t m u, Computed s t k m → D m → Abandons i t u → done u) :
    PseudoFaults i s (x.code, s.badVAddr) k done := by
  obtain ⟨t, m, raised, c, hD⟩ := run.runWords hs
  obtain ⟨g, count, scratch, gpr⟩ := (t.trapEntry x 0#32).trappedPseudo_eq i
  have effect : exec i s = .next { t.trapEntry x 0#32 with gpr := g, freeCount := count } := by
    rw [exec_of_isPseudo i s hp, runPseudo_eq i s hw]
    dsimp only
    rw [State.wordCount] at raised
    rw [raised, State.raise]
    exact congrArg Host.Outcome.next scratch
  obtain ⟨_, ⟨⟩, code, bad, pc, epc, bd, stack, -, hiLo, fp, memory, params, lines, schedule, target, load⟩ :=
    t.raise_spec x 0#32
  obtain ⟨params', status, -, -, -, badVAddr, intLines, intSchedule⟩ := c.system
  have slot := c.settled.inDelaySlot
  refine ⟨_, effect, code, ?_, params' ▸ pc, ?_, slot ▸ bd, status ▸ stack,
    hd t m _ c hD ⟨gpr, hiLo, fp, memory, load⟩, params.trans params', lines.trans intLines,
    schedule.trans intSchedule, target⟩
  · exact bad.trans (by rw [hx, if_neg Bool.false_ne_true, badVAddr])
  · exact epc.trans (by rw [slot, if_neg Bool.false_ne_true, c.pc])

/-- A pseudoinstruction whose words end at a `break` (R178). -/
theorem pseudoBreaks_of_leadsTo {s : State} {i : Instr} {k : Nat} {scratch : List RegIdx} {p : Word → Word → Prop}
    (hs : s.Settled) (hp : i.isPseudo = true) (hw : wellFormed i = true) (hk : 0 < k)
    (hscratch : ∀ rd rs src, i = .pMulo rd rs src → rd ∈ scratch)
    (run : LeadsTo s i (RaisesAfter s .bkpt k fun m => (∀ r, r ∉ scratch → m.x r = s.x r) ∧ p m.hi m.lo)) :
    PseudoBreaks i s k scratch p := by
  refine pseudoFaults_of_leadsTo hs hp hw rfl run fun t m u c ⟨others, values⟩ left => ⟨fun r hr => ?_, ?_,
    c.fp.trans left.fp, c.memory.trans left.memory, left.load.trans (c.retired hk).2⟩
  · have kept : ∀ rd rs src, i = .pMulo rd rs src → r ≠ rd := by
      rintro rd rs src e rfl
      exact hr (hscratch r rs src e)
    rw [left.gpr r kept, c.readSlot_same hs fun _ => others r hr]
  · rw [left.hiLo.1, left.hiLo.2, c.hi_eq, c.lo_eq]
    exact values

end Machine
end Sys2Proof
end

section
/-! PROOFS. The register pseudoinstructions without a test, `neg` and `abs` (R121, R142, R158, R159, R161, R200, R282,
R330, R403). -/

namespace Sys2Proof.Machine

/-! Results that are a copy, a constant or an address. -/

/-- A register written: the result of a pseudoinstruction that needs no other. -/
theorem result_write (s : State) (rd : RegIdx) (v : Word) : Result s rd v false (KeepsHiLo s) (s.regs.write rd v) :=
  ⟨s.regs.write_x_same v, fun _ hr _ => s.regs.write_x_other v hr, rfl, rfl⟩

theorem la_writes (s : State) (hs : s.Settled) (rd : RegIdx) (addr : Address) (hd : notAt rd = true)
    (ha : addr.notAt = true) :
    PseudoWrites (.pLa rd addr) s rd (s.addressValue addr) (Address.usesAt addr) (KeepsHiLo s) := by
  refine pseudoWrites_of_leadsTo hs rfl (by simp [wellFormed, hd, ha])
    (fun h free => by simp [assemblerTempAfter, h]) hd ?_
  cases addr with
  | offset k r =>
    exact .write (fun m => m.x r + signImm k) (fun _ => rfl) (.finish (result_write s rd _))
  | absolute a =>
    refine .write (fun _ => upperImm (a.extractLsb' 16 16)) (fun _ => rfl)
      (.write (fun m => m.x regAt ||| zeroImm (a.extractLsb' 0 16)) (fun _ => rfl) (.finish ?_))
    rw [Regs.write_x_at, upperImm_or_zeroImm]
    refine ⟨Regs.write_x_same _ _, fun r hr hrAt => ?_, rfl, rfl⟩
    rw [Regs.write_x_other _ _ hr, Regs.write_x_other _ _ (hrAt rfl), State.regs_x]
  | indexed a r =>
    refine .write (fun _ => upperImm (a.extractLsb' 16 16)) (fun _ => rfl)
      (.write (fun m => m.x regAt ||| zeroImm (a.extractLsb' 0 16)) (fun _ => rfl)
        (.write (fun m => m.x regAt + m.x r) (fun _ => rfl) (.finish ?_)))
    rw [Regs.write_write, Regs.write_x_at, Regs.write_x_at, upperImm_or_zeroImm, Regs.write_x_other _ _ (ne_regAt ha)]
    refine ⟨Regs.write_x_same _ _, fun q hq hqAt => ?_, rfl, rfl⟩
    rw [Regs.write_x_other _ _ hq, Regs.write_x_other _ _ (hqAt rfl), State.regs_x]

/-! Negatives and the absolute value. -/

theorem zero_sub_eq_ofInt (a : Word) : 0#32 - a = BitVec.ofInt 32 (-a.toInt) := by
  rw [sub_eq_ofInt, BitVec.toInt_zero, zero_sub]

/-- The negative of a word fits one but for MIN (R158). -/
theorem subSigned_zero (a : Word) : subSigned 0#32 a =
    if a = 0x80000000#32 then none else some (BitVec.ofInt 32 (-a.toInt)) := by
  have low := a.le_toInt
  have high := a.toInt_lt
  have min := toInt_eq_min_iff a
  rw [subSigned, fitsSigned, BitVec.toInt_zero, zero_sub]
  split_ifs with fits isMin isMin
  · rw [isMin] at fits
    exact absurd fits (by decide)
  · rfl
  · rfl
  · rw [← min] at isMin
    omega

/-- The subtraction from zero, of a register that reads as MIN (R158, R403). -/
theorem sub_raises {s t : State} {n : Nat} {m : Regs} (rd rs : RegIdx) (c : Computed s t n m)
    (h : m.x rs = 0x80000000#32) : wordEffect (.sub rd 0#5 rs) t = t.raise .ovf 0#32 := by
  have overflow : subSigned (t.x 0#5) (t.x rs) = none := by
    rw [State.x_zero, c.x_eq, h, subSigned_zero, if_pos rfl]
  show t.writeChecked rd _ = _
  rw [overflow]
  rfl

theorem neg_writes (s : State) (hs : s.Settled) (rd rs : RegIdx) (hd : notAt rd = true) (hr : notAt rs = true)
    (h : s.x rs ≠ 0x80000000#32) :
    PseudoWrites (.pNeg rd rs) s rd (BitVec.ofInt 32 (-(s.x rs).toInt)) false (KeepsHiLo s) := by
  refine pseudoWrites_of_leadsTo hs rfl (by simp [wellFormed, hd, hr]) (fun _ _ => rfl) hd ?_
  refine .checked (fun m => subSigned (m.x 0#5) (m.x rs)) (fun _ => rfl) ?_ (.finish (result_write s rd _))
  rw [State.regs_x, State.x_zero, State.regs_x, subSigned_zero, if_neg h]

theorem neg_faults (s : State) (hs : s.Settled) (rd rs : RegIdx) (hd : notAt rd = true) (hr : notAt rs = true)
    (h : s.x rs = 0x80000000#32) : PseudoFaults (.pNeg rd rs) s (12#4, s.badVAddr) 0 (Unmoved s) := by
  refine pseudoFaults_of_leadsTo (x := .ovf) (D := fun _ => True) hs rfl (by simp [wellFormed, hd, hr]) rfl
    (.raise (fun t c => sub_raises rd rs c h) trivial) fun t m u c _ left => ?_
  obtain rfl := c.first rfl
  exact ⟨fun r => left.gpr r nofun, left.hiLo, left.fp, left.memory, left.load⟩

/-- A register copied reads as before, whether it is the copy or not. -/
theorem Regs.write_copy (m : Regs) (rd rs : RegIdx) : (m.write rd (m.x rs)).x rs = m.x rs := by
  unfold Regs.write
  dsimp only
  split_ifs <;> rfl

/-- `abs` begins with a copy (R142). -/
theorem abs_leadsTo {s : State} {rd rs : RegIdx} {P : Effect → Prop}
    (next : Leads s (s.wordCount (.pAbs rd rs)) 1 (s.regs.write rd (s.x rs))
      [.skip (.bgez rs) 1, .word (.sub rd 0#5 rs)] P) : LeadsTo s (.pAbs rd rs) P := by
  refine .write (fun m => m.x 0#5 + m.x rs) (fun _ => rfl) ?_
  rwa [State.regs_x, State.x_zero, BitVec.zero_add]

/-- The copy of a word that is not negative is its absolute value, and of another but MIN its negative is (R142). -/
theorem abs_writes (s : State) (hs : s.Settled) (rd rs : RegIdx) (hd : notAt rd = true) (hr : notAt rs = true)
    (h : s.x rs ≠ 0x80000000#32) :
    PseudoWrites (.pAbs rd rs) s rd (BitVec.ofNat 32 (s.x rs).toInt.natAbs) false (KeepsHiLo s) := by
  have copy : (s.regs.write rd (s.x rs)).x rs = s.x rs := s.regs.write_copy rd rs
  refine pseudoWrites_of_leadsTo hs rfl (by simp [wellFormed, hd, hr]) (fun _ _ => rfl) hd (abs_leadsTo ?_)
  by_cases negative : (s.x rs).toInt < 0
  · have value : BitVec.ofInt 32 (-(s.x rs).toInt) = BitVec.ofNat 32 (s.x rs).toInt.natAbs := by
      rw [← BitVec.ofInt_natCast]
      congr 1
      omega
    refine .skip (fun m => !isNegative (m.x rs)) false (fun _ _ => rfl) (by simp [copy, isNegative, negative])
      (by decide) (.checked (v := BitVec.ofNat 32 (s.x rs).toInt.natAbs) (fun m => subSigned (m.x 0#5) (m.x rs))
        (fun _ => rfl) ?_ (.finish ?_))
    · rw [Regs.write_x_zero, State.regs_x, State.x_zero, copy, subSigned_zero, if_neg h, value]
    · rw [Regs.write_write]
      exact result_write s rd _
  · have value : s.x rs = BitVec.ofNat 32 (s.x rs).toInt.natAbs := by
      rw [← BitVec.ofInt_natCast, Int.natAbs_of_nonneg (by omega), BitVec.ofInt_toInt]
    refine .skip (fun m => !isNegative (m.x rs)) true (fun _ _ => rfl) (by simp [copy, isNegative, negative])
      (by decide) (.finish ?_)
    rw [← value]
    exact result_write s rd _

theorem abs_faults (s : State) (hs : s.Settled) (rd rs : RegIdx) (hd : notAt rd = true) (hr : notAt rs = true)
    (h : s.x rs = 0x80000000#32) :
    PseudoFaults (.pAbs rd rs) s (12#4, s.badVAddr) (if s.params.branchDelaySlot = true then 3 else 2) fun t =>
      GprWritten s t rd 0x80000000#32 ∧ SameHiLo s t ∧ SameFp s t ∧ SameMemory s t ∧ t.loadPending = none := by
  have copy : (s.regs.write rd (s.x rs)).x rs = 0x80000000#32 := (s.regs.write_copy rd rs).trans h
  have number : 1 + ((Item.skip (.bgez rs) 1).size s.params.branchDelaySlot + 0) =
      if s.params.branchDelaySlot = true then 3 else 2 := by
    cases s.params.branchDelaySlot <;> rfl
  rw [← number]
  refine pseudoFaults_of_leadsTo (x := .ovf) (D := fun m => m = s.regs.write rd (s.x rs)) hs rfl
    (by simp [wellFormed, hd, hr]) rfl (abs_leadsTo ?_) ?_
  · exact .skip (fun m => !isNegative (m.x rs)) false (fun _ _ => rfl) (by rw [copy]; rfl) (by decide)
      (.raise (fun t c => sub_raises rd rs c copy) rfl)
  · rintro t m u c rfl left
    refine ⟨fun r => (left.gpr r nofun).trans ?_, ⟨left.hiLo.1.trans c.hi_eq, left.hiLo.2.trans c.lo_eq⟩,
      c.fp.trans left.fp, c.memory.trans left.memory, left.load.trans (c.retired (by omega)).2⟩
    by_cases written : r = rd ∧ r ≠ 0#5
    · obtain ⟨rfl, nonzero⟩ := written
      rw [if_pos ⟨rfl, nonzero⟩, c.readSlot_eq nonzero, Regs.write_x_same _ _ nonzero, h]
    · rw [if_neg written, c.readSlot_same hs fun nonzero => Regs.write_x_other _ _ fun e => written ⟨e, nonzero⟩]

/-! The others. -/

/-- Settles O56: each pseudoinstruction is followed word by word. -/
theorem movePseudoinstructions : Obligations.MovePseudoinstructions := by
  intro s rd rs k addr hs hd
  refine ⟨fun hr => ⟨?_, ?_, ?_, fun h => ⟨neg_writes s hs rd rs hd hr h, abs_writes s hs rd rs hd hr h⟩,
    fun h => ⟨neg_faults s hs rd rs hd hr h, abs_faults s hs rd rs hd hr h⟩⟩, ?_, ?_, la_writes s hs rd addr hd⟩
  · refine pseudoWrites_of_leadsTo hs rfl (by simp [wellFormed, hd, hr]) (fun _ _ => rfl) hd
      (.write (fun m => m.x 0#5 - m.x rs) (fun _ => rfl) (.finish ?_))
    rw [State.regs_x, State.x_zero, zero_sub_eq_ofInt]
    exact result_write s rd _
  · refine pseudoWrites_of_leadsTo hs rfl (by simp [wellFormed, hd, hr]) (fun _ _ => rfl) hd
      (.write (fun m => ~~~(m.x rs ||| m.x 0#5)) (fun _ => rfl) (.finish ?_))
    rw [State.regs_x, State.regs_x, State.x_zero, BitVec.or_zero]
    exact result_write s rd _
  · refine pseudoWrites_of_leadsTo hs rfl (by simp [wellFormed, hd, hr]) (fun _ _ => rfl) hd
      (.write (fun m => m.x 0#5 + m.x rs) (fun _ => rfl) (.finish ?_))
    rw [State.regs_x, State.regs_x, State.x_zero, BitVec.zero_add]
    exact result_write s rd _
  · refine pseudoWrites_of_leadsTo hs rfl rfl (fun _ _ => rfl) rfl ?_
    refine .write (rd := 0#5) (fun _ => 0#32) (fun _ => rfl) (.finish ?_)
    exact result_write s 0#5 0#32
  · refine pseudoWrites_of_leadsTo hs rfl hd (fun _ _ => rfl) hd ?_
    have run := Leads.li (s := s) (total := s.wordCount (.pLi rd k)) (n := 0) rd k s.x_zero
      (.finish (result_write s rd k))
    rwa [List.append_nil] at run

end Sys2Proof.Machine
end

section
/-! PROOFS. The rotates, by a register and by a constant (R121, R166, R167). -/

namespace Sys2Proof.Machine

/-! Two shifts, one each way, make a rotate. -/

theorem rotateLeft_eq_or (a : Word) (n : Nat) :
    a.rotateLeft (n % 32) = a <<< (n % 32) ||| a >>> ((32 - n % 32) % 32) := by
  rw [BitVec.rotateLeft_eq_rotateLeftAux_of_lt (Nat.mod_lt _ (by decide)), BitVec.rotateLeftAux]
  by_cases none : n % 32 = 0
  · rw [none]
    simp [BitVec.ushiftRight_eq_zero]
  · rw [Nat.mod_eq_of_lt (a := 32 - n % 32) (by omega)]

theorem rotateRight_eq_or (a : Word) (n : Nat) :
    a.rotateRight (n % 32) = a >>> (n % 32) ||| a <<< ((32 - n % 32) % 32) := by
  rw [BitVec.rotateRight_eq_rotateRightAux_of_lt (Nat.mod_lt _ (by decide)), BitVec.rotateRightAux]
  by_cases none : n % 32 = 0
  · rw [none]
    simp
  · rw [Nat.mod_eq_of_lt (a := 32 - n % 32) (by omega)]

/-- The distance back, from the negative of a register (R121). -/
theorem shiftDistance_zero_sub (v : Word) : shiftDistance (0#32 - v) = (32 - v.toNat % 32) % 32 := by
  have := v.isLt
  rw [shiftDistance_eq, BitVec.toNat_sub, BitVec.toNat_zero]
  omega

/-- The distance of a constant (R108). -/
theorem toNat_distance (k : Word) : (k.extractLsb' 0 5).toNat = k.toNat % 32 := shiftDistance_eq k

/-- The distance back of a constant (R121). -/
theorem rotateRest_toNat (k : Word) : (rotateRest k).toNat = (32 - k.toNat % 32) % 32 := by
  have := k.isLt
  rw [rotateRest, toNat_distance, BitVec.toNat_sub, BitVec.toNat_ofNat]
  omega

/-! The words of a rotate. -/

/-- Once `$at` holds the one part, a word puts the other into `rd` and the last word joins them. -/
theorem Leads.join {s : State} {total n : Nat} {rd : RegIdx} {a b : Word} {w : Instr} (f : Regs → Word)
    (hi : ∀ t, wordEffect w t = t.write rd (f t.regs)) (hd : notAt rd = true) (hf : f (s.regs.write regAt b) = a) :
    Leads s total n (s.regs.write regAt b) [.word w, .word (.or rd rd regAt)]
      (Finishes s total (Result s rd (a ||| b) true (KeepsHiLo s))) := by
  refine .write f hi (.write (fun m => m.x rd ||| m.x regAt) (fun _ => rfl) (.finish ?_))
  refine ⟨fun nonzero => ?_, fun r hr hrAt => ?_, rfl, rfl⟩
  · rw [Regs.write_x_same _ _ nonzero, Regs.write_x_same _ _ nonzero, hf, Regs.write_x_other _ _ (ne_regAt hd).symm,
      Regs.write_x_at]
  · rw [Regs.write_x_other _ _ hr, Regs.write_x_other _ _ hr, Regs.write_x_other _ _ (hrAt rfl), State.regs_x]

/-- By a register: the part at the end is shifted by the negative of the distance, which `$at` has held before. -/
theorem rotate_by_register {s : State} {i : Instr} {rd rs rt : RegIdx} {w w' : Instr} (f g : Word → Nat → Word)
    (hs : s.Settled) (hp : i.isPseudo = true) (hw : wellFormed i = true)
    (hd : notAt rd = true) (hr : notAt rs = true) (ht : notAt rt = true)
    (words : expansion s.params.bigEndian i =
      [.word (.subu regAt 0#5 rt), .word w, .word w', .word (.or rd rd regAt)])
    (back : ∀ t : State, wordEffect w t = t.write regAt (g (t.x rs) (shiftDistance (t.x regAt))))
    (forth : ∀ t : State, wordEffect w' t = t.write rd (f (t.x rs) (shiftDistance (t.x rt)))) :
    PseudoWrites i s rd (f (s.x rs) ((s.x rt).toNat % 32) ||| g (s.x rs) ((32 - (s.x rt).toNat % 32) % 32)) true
      (KeepsHiLo s) := by
  refine pseudoWrites_of_leadsTo hs hp hw nofun hd ?_
  rw [LeadsTo, words]
  refine .write (fun m => m.x 0#5 - m.x rt) (fun _ => rfl)
    (.write (fun m => g (m.x rs) (shiftDistance (m.x regAt))) back ?_)
  rw [Regs.write_write, Regs.write_x_at, Regs.write_x_other _ _ (ne_regAt hr), State.regs_x, State.regs_x,
    State.regs_x, State.x_zero, shiftDistance_zero_sub]
  refine .join (fun m => f (m.x rs) (shiftDistance (m.x rt))) forth hd ?_
  rw [Regs.write_x_other _ _ (ne_regAt hr), Regs.write_x_other _ _ (ne_regAt ht), State.regs_x, State.regs_x,
    shiftDistance_eq]

/-- Settles O60: each rotate is two shifts of its operand put together. -/
theorem rotatePseudoinstructions : Obligations.RotatePseudoinstructions := by
  intro s rd rs rt k hs hd hr ht
  rw [rotateLeft_eq_or, rotateRight_eq_or, rotateLeft_eq_or, rotateRight_eq_or]
  refine ⟨?_, ?_, ?_, ?_⟩
  · exact rotate_by_register (· <<< ·) (· >>> ·) hs rfl (by simp [wellFormed, hd, hr, ht]) hd hr ht rfl
      (fun _ => rfl) fun _ => rfl
  · exact rotate_by_register (· >>> ·) (· <<< ·) hs rfl (by simp [wellFormed, hd, hr, ht]) hd hr ht rfl
      (fun _ => rfl) fun _ => rfl
  · refine pseudoWrites_of_leadsTo hs rfl (by simp [wellFormed, hd, hr]) nofun hd ?_
    rw [BitVec.or_comm, ← rotateRest_toNat, ← toNat_distance]
    refine .write (fun m => m.x rs <<< (k.extractLsb' 0 5).toNat) (fun _ => rfl)
      (.join (fun m => m.x rs >>> (rotateRest k).toNat) (fun _ => rfl) hd ?_)
    rw [Regs.write_x_other _ _ (ne_regAt hr), State.regs_x]
  · refine pseudoWrites_of_leadsTo hs rfl (by simp [wellFormed, hd, hr]) nofun hd ?_
    rw [BitVec.or_comm, ← rotateRest_toNat, ← toNat_distance]
    refine .write (fun m => m.x rs >>> (k.extractLsb' 0 5).toNat) (fun _ => rfl)
      (.join (fun m => m.x rs <<< (rotateRest k).toNat) (fun _ => rfl) hd ?_)
    rw [Regs.write_x_other _ _ (ne_regAt hr), State.regs_x]

end Sys2Proof.Machine
end

section
/-! PROOFS. The multiply pseudoinstructions (R121, R153 to R155, R178). -/

namespace Sys2Proof.Machine

/-! Whether a product fits its low word. -/

theorem toInt_append (h l : Word) : (h ++ l : DWord).toInt = h.toInt * 2 ^ 32 + l.toNat := by
  have := h.isLt
  have := l.isLt
  rw [BitVec.toInt_eq_toNat_cond, toNat_append_eq, BitVec.toInt_eq_toNat_cond]
  split_ifs <;> omega

/-- The low word of a signed product. -/
theorem lo_eq_ofInt {h l : Word} {p : Int} (hp : (h ++ l : DWord).toInt = p) : l = BitVec.ofInt 32 p := by
  have := l.isLt
  rw [toInt_append] at hp
  apply BitVec.eq_of_toNat_eq
  rw [BitVec.toNat_ofInt, ← hp]
  omega

/-- A signed product fits its low word where its high word is that word's sign (R154). -/
theorem fits_iff_hi_eq_sign {h l : Word} {p : Int} (hp : (h ++ l : DWord).toInt = p) :
    l.sshiftRight 31 = h ↔ -2 ^ 31 ≤ p ∧ p ≤ 2 ^ 31 - 1 := by
  have := l.isLt
  have sign := BitVec.toInt_eq_toNat_cond l
  rw [toInt_append] at hp
  rw [← BitVec.toInt_inj, BitVec.toInt_sshiftRight, Int.shiftRight_eq_div_pow]
  split_ifs at sign <;> omega

/-- An unsigned product fits its low word where its high word is 0 (R155). -/
theorem fits_iff_hi_eq_zero {h l : Word} {u : Nat} (hu : (h ++ l : DWord).toNat = u) : h = 0#32 ↔ u < 2 ^ 32 := by
  have := l.isLt
  rw [toNat_append_eq] at hu
  rw [← BitVec.toNat_inj, BitVec.toNat_zero]
  omega

theorem lo_eq_ofNat {h l : Word} {u : Nat} (hu : (h ++ l : DWord).toNat = u) : l = BitVec.ofNat 32 u := by
  have := l.isLt
  rw [toNat_append_eq] at hu
  apply BitVec.eq_of_toNat_eq
  rw [BitVec.toNat_ofNat]
  omega

/-! The multiplications. -/

section
variable {s : State} {total n : Nat} {rs rt : RegIdx} {src : Src2} {m : Regs} {rest : List Item} {P : Effect → Prop}

/-- A register that is not `$at` reads as at first once the operand has been loaded. -/
theorem Operand.x_eq (o : Operand s src rt m) {r : RegIdx} (hr : notAt r = true) : m.x r = s.x r :=
  o.others r fun _ => ne_regAt hr

theorem Leads.mult (o : Operand s src rt m) (hr : notAt rs = true)
    (next : ∀ h l, (h ++ l : DWord).toInt = (s.x rs).toInt * (s.srcValue src).toInt →
      Leads s total (n + 1) { m with hi := h, lo := l } rest P) :
    Leads s total n m (.word (.mult rs rt) :: rest) P := by
  refine .writeHiLo (fun t => productSigned (t.x rs) (t.x rt)) _ (fun _ => rfl) (fun t c => ?_) next
  rw [productSigned_toInt, c.x_eq, o.value, o.x_eq hr]

theorem Leads.multu (o : Operand s src rt m) (hr : notAt rs = true)
    (next : ∀ h l, (h ++ l : DWord).toNat = (s.x rs).toNat * (s.srcValue src).toNat →
      Leads s total (n + 1) { m with hi := h, lo := l } rest P) :
    Leads s total n m (.word (.multu rs rt) :: rest) P := by
  refine .writeHiLo (fun t => productUnsigned (t.x rs) (t.x rt)) _ (fun _ => rfl) (fun t c => ?_) next
  rw [productUnsigned_toNat, c.x_eq, o.value, o.x_eq hr]

/-- The last word of most of them: the result is moved from `lo` or `hi`, and before it only `$at` has been written. -/
theorem Leads.move {w : Instr} {rd : RegIdx} {v : Word} {usesAt : Bool} {p : Word → Word → Prop} (f : Regs → Word)
    (hi : ∀ t, wordEffect w t = t.write rd (f t.regs)) (hv : f m = v)
    (others : ∀ r, r ≠ rd → (usesAt = true → r ≠ regAt) → m.x r = s.x r) (hp : p m.hi m.lo) :
    Leads s total n m [.word w] (Finishes s total (Result s rd v usesAt p)) := by
  refine .write f hi (.finish ⟨fun nonzero => ?_, fun r hr hrAt => ?_, hp⟩)
  · rw [Regs.write_x_same _ _ nonzero, hv]
  · rw [Regs.write_x_other _ _ hr, others r hr hrAt]

end

/-- `mulo` up to its test: `rd` holds the sign of the low word and `$at` the high word (R121, R154). -/
theorem mulo_leadsTo {s : State} {rd rs : RegIdx} {src : Src2} {P : Effect → Prop} (hd : notAt rd = true)
    (hr : notAt rs = true) (nonzero : rd ≠ 0#5)
    (next : ∀ h l, (h ++ l : DWord).toInt = (s.x rs).toInt * (s.srcValue src).toInt →
      ∀ m : Regs, m.hi = h → m.lo = l → m.x rd = l.sshiftRight 31 → m.x regAt = h →
      (∀ r, r ≠ rd → r ≠ regAt → m.x r = s.x r) →
      Leads s (s.wordCount (.pMulo rd rs src)) (constantWords src + 4) m
        [.skip (.beq rd regAt) 1, .word (.brk 6#20), .word (.mflo rd)] P) : LeadsTo s (.pMulo rd rs src) P := by
  refine .operand fun rt m o => .mult o hr fun h l product => ?_
  refine .write (fun m => m.hi) (fun _ => rfl) (.write (fun m => m.lo) (fun _ => rfl)
    (.write (fun m => (m.x rd).sshiftRight 31) (fun _ => rfl) ?_))
  refine next h l product _ rfl rfl ?_ ?_ fun r hrd hrAt => ?_
  · rw [Regs.write_x_same _ _ nonzero, Regs.write_x_same _ _ nonzero]
    rfl
  · rw [Regs.write_x_other _ _ (ne_regAt hd).symm, Regs.write_x_other _ _ (ne_regAt hd).symm, Regs.write_x_at]
  · rw [Regs.write_x_other _ _ hrd, Regs.write_x_other _ _ hrd, Regs.write_x_other _ _ hrAt]
    exact o.others r fun _ => hrAt

/-- `mulou` up to its test: `$at` holds the high word (R121, R155). -/
theorem mulou_leadsTo {s : State} {rd rs : RegIdx} {src : Src2} {P : Effect → Prop} (hr : notAt rs = true)
    (next : ∀ h l, (h ++ l : DWord).toNat = (s.x rs).toNat * (s.srcValue src).toNat →
      ∀ m : Regs, m.hi = h → m.lo = l → m.x 0#5 = 0#32 → m.x regAt = h → (∀ r, r ≠ regAt → m.x r = s.x r) →
      Leads s (s.wordCount (.pMulou rd rs src)) (constantWords src + 2) m
        [.skip (.beq regAt 0#5) 1, .word (.brk 6#20), .word (.mflo rd)] P) : LeadsTo s (.pMulou rd rs src) P := by
  refine .operand fun rt m o => .multu o hr fun h l product => .write (fun m => m.hi) (fun _ => rfl) ?_
  have others : ∀ r, r ≠ regAt → (Regs.write { m with hi := h, lo := l } regAt h).x r = s.x r := fun r hr =>
    (Regs.write_x_other _ _ hr).trans (o.others r fun _ => hr)
  exact next h l product _ rfl rfl ((others 0#5 (by decide)).trans s.x_zero) (Regs.write_x_at _ _) others

section
variable (s : State) (rd rs : RegIdx) (src : Src2) (hs : s.Settled) (hd : notAt rd = true) (hr : notAt rs = true)
  (hsrc : src.notAt = true)
include hs hd hr hsrc

theorem mul_writes :
    PseudoWrites (.pMul rd rs src) s rd (BitVec.ofInt 32 ((s.x rs).toInt * (s.srcValue src).toInt)) (Src2.isConst src)
      fun h l => (h ++ l : DWord).toInt = (s.x rs).toInt * (s.srcValue src).toInt := by
  refine pseudoWrites_of_leadsTo hs rfl (by simp [wellFormed, hd, hr, hsrc])
    (fun h free => by simp [assemblerTempAfter, h]) hd ?_
  refine .operand fun rt m o => .mult o hr fun h l product => ?_
  exact .move (fun m => m.lo) (fun _ => rfl) (lo_eq_ofInt product) (fun r _ hrAt => o.others r hrAt) product

theorem mulo_writes (nonzero : rd ≠ 0#5)
    (fits : -2 ^ 31 ≤ (s.x rs).toInt * (s.srcValue src).toInt ∧ (s.x rs).toInt * (s.srcValue src).toInt ≤ 2 ^ 31 - 1) :
    PseudoWrites (.pMulo rd rs src) s rd (BitVec.ofInt 32 ((s.x rs).toInt * (s.srcValue src).toInt)) true
      fun h l => (h ++ l : DWord).toInt = (s.x rs).toInt * (s.srcValue src).toInt := by
  refine pseudoWrites_of_leadsTo hs rfl (by simp [wellFormed, hd, hr, hsrc, nonzero]) nofun hd
    (mulo_leadsTo hd hr nonzero fun h l product m hi lo sign high others => ?_)
  refine .skip (fun m => m.x rd == m.x regAt) true (fun _ _ => rfl) ?_ (by decide)
    (.move (fun m => m.lo) (fun _ => rfl) (lo ▸ lo_eq_ofInt product) (fun r hrd hrAt => others r hrd (hrAt rfl))
      (hi ▸ lo ▸ product))
  rw [sign, high, beq_iff_eq]
  exact (fits_iff_hi_eq_sign product).mpr fits

theorem mulo_breaks (nonzero : rd ≠ 0#5)
    (overflow : ¬ (-2 ^ 31 ≤ (s.x rs).toInt * (s.srcValue src).toInt ∧
      (s.x rs).toInt * (s.srcValue src).toInt ≤ 2 ^ 31 - 1)) :
    PseudoBreaks (.pMulo rd rs src) s (constantWords src + 5 + if s.params.branchDelaySlot = true then 1 else 0)
      [rd, regAt] fun h l => (h ++ l : DWord).toInt = (s.x rs).toInt * (s.srcValue src).toInt := by
  have number : constantWords src + 4 + ((Item.skip (.beq rd regAt) 1).size s.params.branchDelaySlot + 0) =
      constantWords src + 5 + if s.params.branchDelaySlot = true then 1 else 0 := by
    rw [Item.skip_size]
    omega
  rw [← number]
  refine pseudoBreaks_of_leadsTo hs rfl (by simp [wellFormed, hd, hr, hsrc, nonzero]) (by omega) ?_
    (mulo_leadsTo hd hr nonzero fun h l product m hi lo sign high others => ?_)
  · rintro _ _ _ ⟨⟩
    exact List.mem_cons_self
  · refine .skip (fun m => m.x rd == m.x regAt) false (fun _ _ => rfl) ?_ (by decide)
      (.raise (fun _ _ => rfl) ⟨fun r hr => ?_, hi ▸ lo ▸ product⟩)
    · rw [sign, high, beq_eq_false_iff_ne]
      exact mt (fits_iff_hi_eq_sign product).mp overflow
    · simp only [List.mem_cons, List.not_mem_nil, or_false, not_or] at hr
      exact others r hr.1 hr.2

theorem mulou_writes (fits : (s.x rs).toNat * (s.srcValue src).toNat < 2 ^ 32) :
    PseudoWrites (.pMulou rd rs src) s rd (BitVec.ofNat 32 ((s.x rs).toNat * (s.srcValue src).toNat)) true
      fun h l => (h ++ l : DWord).toNat = (s.x rs).toNat * (s.srcValue src).toNat := by
  refine pseudoWrites_of_leadsTo hs rfl (by simp [wellFormed, hd, hr, hsrc]) nofun hd
    (mulou_leadsTo hr fun h l product m hi lo zero high others => ?_)
  refine .skip (fun m => m.x regAt == m.x 0#5) true (fun _ _ => rfl) ?_ (by decide)
    (.move (fun m => m.lo) (fun _ => rfl) (lo ▸ lo_eq_ofNat product) (fun r _ hrAt => others r (hrAt rfl))
      (hi ▸ lo ▸ product))
  rw [high, zero, beq_iff_eq]
  exact (fits_iff_hi_eq_zero product).mpr fits

theorem mulou_breaks (overflow : ¬ (s.x rs).toNat * (s.srcValue src).toNat < 2 ^ 32) :
    PseudoBreaks (.pMulou rd rs src) s (constantWords src + 3 + if s.params.branchDelaySlot = true then 1 else 0)
      [regAt] fun h l => (h ++ l : DWord).toNat = (s.x rs).toNat * (s.srcValue src).toNat := by
  have number : constantWords src + 2 + ((Item.skip (.beq regAt 0#5) 1).size s.params.branchDelaySlot + 0) =
      constantWords src + 3 + if s.params.branchDelaySlot = true then 1 else 0 := by
    rw [Item.skip_size]
    omega
  rw [← number]
  refine pseudoBreaks_of_leadsTo hs rfl (by simp [wellFormed, hd, hr, hsrc]) (by omega) nofun
    (mulou_leadsTo hr fun h l product m hi lo zero high others => ?_)
  refine .skip (fun m => m.x regAt == m.x 0#5) false (fun _ _ => rfl) ?_ (by decide)
    (.raise (fun _ _ => rfl) ⟨fun r hr => others r (by simpa using hr), hi ▸ lo ▸ product⟩)
  rw [high, zero, beq_eq_false_iff_ne]
  exact mt (fits_iff_hi_eq_zero product).mp overflow

end

/-- Settles O58: each product is followed to its test, which says whether it fits. -/
theorem multiplyPseudoinstructions : Obligations.MultiplyPseudoinstructions := by
  intro s rd rs src hs hd hr hsrc p u k d signed
  refine ⟨mul_writes s rd rs src hs hd hr hsrc, fun nonzero => ?_, ?_⟩
  · split_ifs with fits
    · exact mulo_writes s rd rs src hs hd hr hsrc nonzero fits
    · exact mulo_breaks s rd rs src hs hd hr hsrc nonzero fits
  · split_ifs with fits
    · exact mulou_writes s rd rs src hs hd hr hsrc fits
    · exact mulou_breaks s rd rs src hs hd hr hsrc fits

end Sys2Proof.Machine
end

section
/-! PROOFS. The divide and remainder pseudoinstructions (R121, R151, R152, R164, R165, R178, R179). -/

namespace Sys2Proof.Machine

/-! The test of the divisor. -/

section
variable {s : State} {total n : Nat} {rd rs rt : RegIdx} {src : Src2} {m : Regs} {rest : List Item}
  {P : Effect → Prop} {i : Instr}

theorem Operand.zero (o : Operand s src rt m) : m.x 0#5 = 0#32 :=
  (o.x_eq (by decide)).trans s.x_zero

/-- The four pseudoinstructions begin with the test of their divisor, and `break 7` where it is zero (R121, R178). -/
def TestsDivisor (s : State) (i : Instr) (src : Src2) (rest : RegIdx → List Item) : Prop :=
  expansion s.params.bigEndian i =
    withSrc src fun rt => .skip (.bne rt 0#5) 1 :: .word (.brk 7#20) :: rest rt

theorem zeroDivisor_breaks {rest : RegIdx → List Item} (words : TestsDivisor s i src rest) (hs : s.Settled)
    (hp : i.isPseudo = true) (hw : wellFormed i = true) (noScratch : ∀ rd rs src, i ≠ .pMulo rd rs src)
    (zero : s.srcValue src = 0#32) :
    PseudoBreaks i s (constantWords src + 1 + if s.params.branchDelaySlot = true then 1 else 0)
      (if Src2.isConst src = true then [regAt] else []) (KeepsHiLo s) := by
  rw [Nat.add_assoc, ← Item.skip_size (.bne 0#5 0#5) 1]
  refine pseudoBreaks_of_leadsTo hs hp hw (by rw [Item.skip_size]; omega)
    (fun rd rs src e => absurd e (noScratch rd rs src)) ?_
  rw [LeadsTo, words]
  refine .operand fun rt m o => .skip (fun m => m.x rt != m.x 0#5) false (fun _ _ => rfl) ?_ (by decide)
    (.raise (fun _ _ => rfl) ⟨fun r hr => o.others r fun const => ?_, o.hi, o.lo⟩)
  · rw [o.value, o.zero, zero]
    rfl
  · rintro rfl
    simp [const] at hr

/-- Past the test. -/
theorem divisor_leadsTo {rest : RegIdx → List Item} (words : TestsDivisor s i src rest)
    (nonzero : s.srcValue src ≠ 0#32)
    (next : ∀ rt m, Operand s src rt m → Leads s (s.wordCount i)
      (constantWords src + 2 + if s.params.branchDelaySlot = true then 1 else 0) m (rest rt) P) : LeadsTo s i P := by
  rw [LeadsTo, words]
  refine .operand fun rt m o => .skip (fun m => m.x rt != m.x 0#5) true (fun _ _ => rfl) ?_ (by decide) ?_
  · rw [o.value, o.zero, bne_iff_ne]
    exact nonzero
  · have number : constantWords src + ((Item.skip (.bne rt 0#5) 1).size s.params.branchDelaySlot + 1) =
        constantWords src + 2 + if s.params.branchDelaySlot = true then 1 else 0 := by
      rw [Item.skip_size]
      omega
    exact number ▸ next rt m o

/-! The divisions. -/

/-- `q` is the remainder and the quotient of a signed division on the machine of `s`, of some free values where R179
leaves them open. -/
def SignedDivision (s : State) (a b : Word) (q : Word × Word) : Prop :=
  ∃ freeHi freeLo, q = quotientSigned s.params.divNumerics freeHi freeLo a b

theorem SignedDivision.toInt_eq {a b : Word} {q : Word × Word} (division : SignedDivision s a b q) (h : Divides a b)
    (hp : s.params.divNumerics = .trunc ∨ 0 ≤ a.toInt ∧ 0 ≤ b.toInt) :
    q.1.toInt = a.toInt.tmod b.toInt ∧ q.2.toInt = a.toInt.tdiv b.toInt := by
  obtain ⟨freeHi, freeLo, rfl⟩ := division
  exact quotientSigned_exact freeHi freeLo h hp

theorem SignedDivision.toInt_rounded {a b : Word} {q : Word × Word} (division : SignedDivision s a b q)
    (h : Divides a b) :
    q.2.toInt = a.toInt.tdiv b.toInt ∨ q.2.toInt = a.toInt.fdiv b.toInt := by
  obtain ⟨freeHi, freeLo, rfl⟩ := division
  exact quotientSigned_rounded _ freeHi freeLo h

theorem Leads.div (o : Operand s src rt m) (hr : notAt rs = true)
    (next : ∀ q, SignedDivision s (s.x rs) (s.srcValue src) q →
      Leads s total (n + 1) { m with hi := q.1, lo := q.2 } rest P) :
    Leads s total n m (.word (.div rs rt) :: rest) P := by
  refine .writeHiLo (fun t => quotientSigned t.params.divNumerics (t.draw .remainder) (t.draw .quotient) (t.x rs)
    (t.x rt)) (fun h l => SignedDivision s (s.x rs) (s.srcValue src) (h, l)) (fun _ => rfl) (fun t c => ?_)
    fun h l => next (h, l)
  refine ⟨t.draw .remainder, t.draw .quotient, ?_⟩
  rw [c.system.1, c.x_eq, o.value, o.x_eq hr]

theorem Leads.divu (o : Operand s src rt m) (hr : notAt rs = true) (nonzero : s.srcValue src ≠ 0#32)
    (next : ∀ h l, h.toNat = (s.x rs).toNat % (s.srcValue src).toNat ∧
      l.toNat = (s.x rs).toNat / (s.srcValue src).toNat →
      Leads s total (n + 1) { m with hi := h, lo := l } rest P) :
    Leads s total n m (.word (.divu rs rt) :: rest) P := by
  refine .writeHiLo (fun t => quotientUnsigned (t.draw .remainder) (t.draw .quotient) (t.x rs) (t.x rt)) _
    (fun _ => rfl) (fun t c => ?_) next
  rw [c.x_eq, o.value, o.x_eq hr]
  exact quotientUnsigned_toNat _ _ nonzero

end

theorem eq_ofNat {v : Word} {n : Nat} (h : v.toNat = n) : v = BitVec.ofNat 32 n := by
  rw [← h, BitVec.ofNat_toNat, BitVec.setWidth_eq]

theorem eq_ofInt {v : Word} {z : Int} (h : v.toInt = z) : v = BitVec.ofInt 32 z := by
  rw [← h, BitVec.ofInt_toInt]

/-- `div` up to its test for MIN by -1: `$at` holds the complement of the divisor (R121, R151). -/
theorem div_leadsTo {s : State} {rd rs : RegIdx} {src : Src2} {P : Effect → Prop} (hr : notAt rs = true)
    (nonzero : s.srcValue src ≠ 0#32)
    (next : ∀ q, SignedDivision s (s.x rs) (s.srcValue src) q → ∀ m : Regs, m.hi = q.1 → m.lo = q.2 →
      m.x regAt = ~~~(s.srcValue src) → (∀ r, r ≠ regAt → m.x r = s.x r) →
      Leads s (s.wordCount (.pDiv rd rs src))
        (constantWords src + 2 + (if s.params.branchDelaySlot = true then 1 else 0) + 2) m
        [.skip (.bne regAt 0#5) 3, .word (.lui regAt 0x8000#16), .skip (.bne rs regAt) 1,
          .word (.brk 6#20), .word (.mflo rd)] P) : LeadsTo s (.pDiv rd rs src) P := by
  refine divisor_leadsTo rfl nonzero fun rt m o => .div o hr fun q division =>
    .write (fun m => ~~~(m.x rt ||| m.x 0#5)) (fun _ => rfl) ?_
  refine next q division _ rfl rfl ?_ fun r hr => (Regs.write_x_other _ _ hr).trans (o.others r fun _ => hr)
  rw [Regs.write_x_at, o.value, o.zero, BitVec.or_zero]

theorem complement_eq_zero_iff (b : Word) : ~~~b = 0#32 ↔ b = 0xffffffff#32 := by
  rw [BitVec.not_eq_comm, show ~~~0#32 = 0xffffffff#32 by decide, eq_comm]

section
variable (s : State) (rd rs : RegIdx) (src : Src2) (hs : s.Settled) (hd : notAt rd = true) (hr : notAt rs = true)
  (hsrc : src.notAt = true) (nonzero : s.srcValue src ≠ 0#32)
include hs hd hr hsrc nonzero

theorem divu_writes : PseudoWrites (.pDivu rd rs src) s rd
    (BitVec.ofNat 32 ((s.x rs).toNat / (s.srcValue src).toNat)) (Src2.isConst src) fun h l =>
      h.toNat = (s.x rs).toNat % (s.srcValue src).toNat ∧ l.toNat = (s.x rs).toNat / (s.srcValue src).toNat := by
  refine pseudoWrites_of_leadsTo hs rfl (by simp [wellFormed, hd, hr, hsrc])
    (fun h free => by simp [assemblerTempAfter, h]) hd (divisor_leadsTo rfl nonzero fun rt m o => ?_)
  exact .divu o hr nonzero fun h l division =>
    .move (fun m => m.lo) (fun _ => rfl) (eq_ofNat division.2) (fun r _ hrAt => o.others r hrAt) division

theorem remu_writes : PseudoWrites (.pRemu rd rs src) s rd
    (BitVec.ofNat 32 ((s.x rs).toNat % (s.srcValue src).toNat)) (Src2.isConst src) fun h l =>
      h.toNat = (s.x rs).toNat % (s.srcValue src).toNat ∧ l.toNat = (s.x rs).toNat / (s.srcValue src).toNat := by
  refine pseudoWrites_of_leadsTo hs rfl (by simp [wellFormed, hd, hr, hsrc])
    (fun h free => by simp [assemblerTempAfter, h]) hd (divisor_leadsTo rfl nonzero fun rt m o => ?_)
  exact .divu o hr nonzero fun h l division =>
    .move (fun m => m.hi) (fun _ => rfl) (eq_ofNat division.1) (fun r _ hrAt => o.others r hrAt) division

theorem rem_writes : ∃ q, SignedDivision s (s.x rs) (s.srcValue src) q ∧
    PseudoWrites (.pRem rd rs src) s rd q.1 (Src2.isConst src) fun h l => h = q.1 ∧ l = q.2 := by
  refine exists_pseudoWrites_of_leadsTo hs rfl (by simp [wellFormed, hd, hr, hsrc])
    (fun h free => by simp [assemblerTempAfter, h]) hd (divisor_leadsTo rfl nonzero fun rt m o => ?_)
  refine .div o hr fun q division => .write (fun m => m.hi) (fun _ => rfl) (.finish ⟨q, division, ?_⟩)
  exact ⟨Regs.write_x_same _ _, fun r hr hrAt => (Regs.write_x_other _ _ hr).trans (o.others r hrAt), rfl, rfl⟩

/-- For a divisor other than -1 the first test goes on at the last word, for -1 and another dividend than MIN the second
does (R121, R151). -/
theorem div_writes (noMin : ¬ (s.x rs = 0x80000000#32 ∧ s.srcValue src = 0xffffffff#32)) :
    ∃ q, SignedDivision s (s.x rs) (s.srcValue src) q ∧
      PseudoWrites (.pDiv rd rs src) s rd q.2 true fun h l => h = q.1 ∧ l = q.2 := by
  refine exists_pseudoWrites_of_leadsTo hs rfl (by simp [wellFormed, hd, hr, hsrc]) nofun hd
    (div_leadsTo hr nonzero fun q division m hi lo complement others => ?_)
  have zero : m.x 0#5 = 0#32 := (others 0#5 (by decide)).trans s.x_zero
  by_cases unit : s.srcValue src = 0xffffffff#32
  · have apart : s.x rs ≠ 0x80000000#32 := fun min => noMin ⟨min, unit⟩
    refine .skip (fun m => m.x regAt != m.x 0#5) false (fun _ _ => rfl) (by rw [complement, zero, unit]; rfl)
      (by decide) (.write (fun _ => upperImm 0x8000#16) (fun _ => rfl)
        (.skip (fun m => m.x rs != m.x regAt) true (fun _ _ => rfl) ?_ (by decide)
          (.write (fun m => m.lo) (fun _ => rfl) (.finish ⟨q, division, ?_⟩))))
    · rw [Regs.write_x_other _ _ (ne_regAt hr), Regs.write_x_at, others rs (ne_regAt hr), bne_iff_ne]
      exact apart
    · refine ⟨fun hrd => (Regs.write_x_same _ _ hrd).trans lo, fun r hrd hrAt => ?_, hi, lo⟩
      rw [Regs.write_x_other _ _ hrd, Regs.write_x_other _ _ (hrAt rfl), others r (hrAt rfl)]
  · refine .skip (fun m => m.x regAt != m.x 0#5) true (fun _ _ => rfl) ?_ (by decide)
      (.write (fun m => m.lo) (fun _ => rfl) (.finish ⟨q, division, ?_⟩))
    · rw [complement, zero, bne_iff_ne, ne_eq, complement_eq_zero_iff]
      exact unit
    · exact ⟨fun hrd => (Regs.write_x_same _ _ hrd).trans lo,
        fun r hrd hrAt => (Regs.write_x_other _ _ hrd).trans (others r (hrAt rfl)), hi, lo⟩

theorem div_breaks (min : s.x rs = 0x80000000#32 ∧ s.srcValue src = 0xffffffff#32) :
    PseudoBreaks (.pDiv rd rs src) s
      (constantWords src + 7 + 3 * if s.params.branchDelaySlot = true then 1 else 0) [regAt] fun _ _ => True := by
  have number : constantWords src + 2 + (if s.params.branchDelaySlot = true then 1 else 0) + 2 +
      ((Item.skip (.bne regAt 0#5) 3).size s.params.branchDelaySlot + 0) + 1 +
      ((Item.skip (.bne rs regAt) 1).size s.params.branchDelaySlot + 0) =
      constantWords src + 7 + 3 * if s.params.branchDelaySlot = true then 1 else 0 := by
    rw [Item.skip_size, Item.skip_size]
    omega
  rw [← number]
  refine pseudoBreaks_of_leadsTo hs rfl (by simp [wellFormed, hd, hr, hsrc]) (by omega) nofun
    (div_leadsTo hr nonzero fun q _ m _ _ complement others => ?_)
  have zero : m.x 0#5 = 0#32 := (others 0#5 (by decide)).trans s.x_zero
  refine .skip (fun m => m.x regAt != m.x 0#5) false (fun _ _ => rfl) (by rw [complement, zero, min.2]; rfl)
    (by decide) (.write (fun _ => upperImm 0x8000#16) (fun _ => rfl)
      (.skip (fun m => m.x rs != m.x regAt) false (fun _ _ => rfl) ?_ (by decide)
        (.raise (fun _ _ => rfl) ⟨fun r hr => ?_, trivial⟩)))
  · rw [Regs.write_x_other _ _ (ne_regAt hr), Regs.write_x_at, others rs (ne_regAt hr), min.1]
    rfl
  · have apart : r ≠ regAt := by simpa using hr
    rw [Regs.write_x_other _ _ apart, others r apart]

end

theorem PseudoWrites.mono {i : Instr} {s : State} {rd : RegIdx} {v : Word} {usesAt : Bool} {p p' : Word → Word → Prop}
    (h : PseudoWrites i s rd v usesAt p) (hp : ∀ h l, p h l → p' h l) : PseudoWrites i s rd v usesAt p' := by
  obtain ⟨t, effect, gpr, values, rest⟩ := h
  exact ⟨t, effect, gpr, hp _ _ values, rest⟩

/-- Settles O59: the test of the divisor, the division, and for `div` the test for MIN by -1. -/
theorem dividePseudoinstructions : Obligations.DividePseudoinstructions := by
  intro s rd rs src hs hd hr hsrc a b k d c
  refine ⟨fun zero => ?_, fun nonzero => ⟨divu_writes s rd rs src hs hd hr hsrc nonzero,
    remu_writes s rd rs src hs hd hr hsrc nonzero, fun min => ⟨div_breaks s rd rs src hs hd hr hsrc nonzero min, ?_⟩,
    fun noMin => ?_⟩⟩
  · have wf : wellFormed (.pDiv rd rs src) = true := by simp [wellFormed, hd, hr, hsrc]
    simp only [List.forall_mem_cons]
    exact ⟨zeroDivisor_breaks rfl hs rfl wf nofun zero, zeroDivisor_breaks rfl hs rfl wf nofun zero,
      zeroDivisor_breaks rfl hs rfl wf nofun zero, zeroDivisor_breaks rfl hs rfl wf nofun zero,
      fun _ h => absurd h List.not_mem_nil⟩
  · obtain ⟨q, -, writes⟩ := rem_writes s rd rs src hs hd hr hsrc nonzero
    exact ⟨q.1, writes.mono fun _ _ _ => trivial⟩
  · obtain ⟨q, division, quotient⟩ := div_writes s rd rs src hs hd hr hsrc nonzero noMin
    obtain ⟨q', division', remainder⟩ := rem_writes s rd rs src hs hd hr hsrc nonzero
    have divides : Divides a b := ⟨nonzero, noMin⟩
    refine ⟨fun exactly => ⟨?_, ?_⟩, ⟨q.2, division.toInt_rounded divides, quotient.mono fun _ _ => And.right⟩, q'.1,
      remainder.mono fun _ _ => And.left⟩
    · have values := division.toInt_eq divides exactly
      rw [← eq_ofInt values.2]
      exact quotient.mono fun _ _ ⟨hi, lo⟩ => hi ▸ lo ▸ values
    · have values := division'.toInt_eq divides exactly
      rw [← eq_ofInt values.1]
      exact remainder.mono fun _ _ ⟨hi, lo⟩ => hi ▸ lo ▸ values

end Sys2Proof.Machine
end

section
/-! PROOFS. The comparisons: the bare ones, and the set pseudoinstructions, whose words end in one or in the opposite of
one (R121, R202 to R214). -/

namespace Sys2Proof.Machine

/-! The bare comparisons. -/

theorem boolWord_decide (p : Prop) [Decidable p] : boolWord (decide p) = if p then 1#32 else 0#32 := by
  simp only [boolWord, decide_eq_true_eq]

/-- Settles O24: each word is its instruction's own, and each instruction is a write of its comparison; the immediate of
both `slti` and `sltiu` is the sign-extended one. -/
theorem setOnLessThan : Obligations.SetOnLessThan := by
  intro s rd rs rt imm
  have extended : BitVec.ofInt 32 imm.toInt = signImm imm := rfl
  rw [extended, ← toInt_signImm]
  simp only [← boolWord_decide]
  exact ⟨decodeWord_of_encodeWord rfl, decodeWord_of_encodeWord rfl, decodeWord_of_encodeWord rfl,
    decodeWord_of_encodeWord rfl, s.write_spec rd _, s.write_spec rt _, s.write_spec rd _, s.write_spec rt _⟩

/-! What the second word makes of the first word's result. -/

/-- `xori` with 1 turns a comparison into its opposite (R121). -/
theorem boolWord_xor_one (c : Bool) : boolWord c ^^^ zeroImm 1#16 = boolWord (!c) := by
  cases c <;> rfl

theorem not_lessSigned (a b : Word) : (!lessSigned a b) = decide (b.toInt ≤ a.toInt) := by
  rw [lessSigned, ← decide_not, decide_eq_decide]
  exact Int.not_lt

theorem not_lessUnsigned (a b : Word) : (!lessUnsigned a b) = decide (b.toNat ≤ a.toNat) := by
  rw [lessUnsigned, ← decide_not, decide_eq_decide]
  exact Nat.not_lt

theorem toNat_xor_eq_zero_iff (a b : Word) : (a ^^^ b).toNat = 0 ↔ a = b := by
  rw [BitVec.toNat_xor, Nat.xor_eq_zero_iff, BitVec.toNat_inj]

/-- `seq` asks whether the difference in bits is below 1 (R121, R202). -/
theorem xor_lessUnsigned_one (a b : Word) : lessUnsigned (a ^^^ b) (signImm 1#16) = decide (a = b) := by
  rw [lessUnsigned, decide_eq_decide, ← toNat_xor_eq_zero_iff]
  exact Nat.lt_one_iff

/-- `sne` asks whether the difference in bits is above 0 (R121, R213). -/
theorem zero_lessUnsigned_xor (a b : Word) : lessUnsigned 0#32 (a ^^^ b) = decide (a ≠ b) := by
  rw [lessUnsigned, decide_eq_decide, ne_eq, ← toNat_xor_eq_zero_iff]
  exact Nat.pos_iff_ne_zero

/-! The words of a set pseudoinstruction. -/

/-- With the operand loaded, a write of `rd` is all that is left to do. -/
theorem Operand.result_write {s : State} {src : Src2} {rt : RegIdx} {m : Regs} (o : Operand s src rt m) (rd : RegIdx)
    (v : Word) : Result s rd v (Src2.isConst src) (KeepsHiLo s) (m.write rd v) :=
  ⟨m.write_x_same v, fun r hr hrAt => (m.write_x_other v hr).trans (o.others r hrAt), o.hi, o.lo⟩

/-- What R118 and R121 say alike of the pseudoinstructions that compute `rd` from `rs` and `src` with no other register:
no operand is `$at`, and `$at` is written for a constant only. -/
structure ComputesInPlace (i : Instr) (rd rs : RegIdx) (src : Src2) : Prop where
  isPseudo : i.isPseudo = true
  wellFormed_eq : wellFormed i = (notAt rd && notAt rs && src.notAt)
  tempAfter_eq : ∀ free, assemblerTempAfter i free = if Src2.isConst src = true then some free else none

section
variable {s : State} {i : Instr} {rd rs : RegIdx} {src : Src2} {w : RegIdx → Instr}
  (inPlace : ComputesInPlace i rd rs src) (hs : s.Settled) (hd : notAt rd = true) (hr : notAt rs = true)
  (hsrc : src.notAt = true)
include inPlace hs hd hr hsrc

theorem ComputesInPlace.writes {v : Word} {items : RegIdx → List Item}
    (words : expansion s.params.bigEndian i = withSrc src items)
    (run : ∀ rt m, Operand s src rt m → Leads s (s.wordCount i) (constantWords src) m (items rt)
      (Finishes s (s.wordCount i) (Result s rd v (Src2.isConst src) (KeepsHiLo s)))) :
    PseudoWrites i s rd v (Src2.isConst src) (KeepsHiLo s) := by
  refine pseudoWrites_of_leadsTo hs inPlace.isPseudo (by simp [inPlace.wellFormed_eq, hd, hr, hsrc])
    (fun reg free => by simp [inPlace.tempAfter_eq, reg]) hd ?_
  rw [LeadsTo, words]
  exact .operand run

/-- One word: it computes `f` of the operands. -/
theorem ComputesInPlace.writes_of_word (f : Word → Word → Word)
    (words : expansion s.params.bigEndian i = withSrc src fun rt => [.word (w rt)])
    (effect : ∀ rt (t : State), wordEffect (w rt) t = t.write rd (f (t.x rs) (t.x rt))) :
    PseudoWrites i s rd (f (s.x rs) (s.srcValue src)) (Src2.isConst src) (KeepsHiLo s) := by
  refine inPlace.writes hs hd hr hsrc words fun rt m o => ?_
  refine .write (fun m => f (m.x rs) (m.x rt)) (effect rt) (.finish ?_)
  rw [o.value, o.x_eq hr]
  exact o.result_write rd _

/-- Two words: the first computes `f` of the operands, the second `g` of that. -/
theorem ComputesInPlace.writes_of_two_words {w' : Instr} (f : Word → Word → Word) (g : Word → Word)
    (words : expansion s.params.bigEndian i = withSrc src fun rt => [.word (w rt), .word w'])
    (first : ∀ rt (t : State), wordEffect (w rt) t = t.write rd (f (t.x rs) (t.x rt)))
    (second : ∀ t : State, wordEffect w' t = t.write rd (g (t.x rd))) :
    PseudoWrites i s rd (g (f (s.x rs) (s.srcValue src))) (Src2.isConst src) (KeepsHiLo s) := by
  refine inPlace.writes hs hd hr hsrc words fun rt m o => ?_
  refine .write (fun m => f (m.x rs) (m.x rt)) (first rt) (.write (fun m => g (m.x rd)) second (.finish ?_))
  rw [m.write_write_read rd _ g, o.value, o.x_eq hr]
  exact o.result_write rd _

/-- A comparison and then its opposite. -/
theorem ComputesInPlace.writes_opposite (less : Word → Word → Bool)
    (words : expansion s.params.bigEndian i = withSrc src fun rt => [.word (w rt), .word (.xori rd rd 1#16)])
    (first : ∀ rt (t : State), wordEffect (w rt) t = t.write rd (boolWord (less (t.x rs) (t.x rt)))) :
    PseudoWrites i s rd (boolWord (!less (s.x rs) (s.srcValue src))) (Src2.isConst src) (KeepsHiLo s) := by
  rw [← boolWord_xor_one]
  exact inPlace.writes_of_two_words hs hd hr hsrc (fun a b => boolWord (less a b)) (· ^^^ zeroImm 1#16) words first
    fun _ => rfl

end

/-- Settles O57: `sgt` and `sgtu` are a comparison with the operands the other way round, `sge`, `sgeu`, `sle` and
`sleu` the opposite of one, and `seq` and `sne` compare the bits in which the operands differ with none. -/
theorem setPseudoinstructions : Obligations.SetPseudoinstructions := by
  intro s rd rs src hs hd hr hsrc a b sets
  refine ⟨?seq, ?sne, ?sge, ?sgeu, ?sgt, ?sgtu, ?sle, ?sleu⟩
  case seq =>
    rw [← xor_lessUnsigned_one]
    exact ComputesInPlace.writes_of_two_words ⟨rfl, rfl, fun _ => rfl⟩ hs hd hr hsrc (· ^^^ ·)
      (fun v => boolWord (lessUnsigned v (signImm 1#16))) rfl (fun _ _ => rfl) fun _ => rfl
  case sne =>
    have second (t : State) :
        wordEffect (.sltu rd 0#5 rd) t = t.write rd (boolWord (lessUnsigned 0#32 (t.x rd))) :=
      t.x_zero ▸ rfl
    rw [← zero_lessUnsigned_xor]
    exact ComputesInPlace.writes_of_two_words ⟨rfl, rfl, fun _ => rfl⟩ hs hd hr hsrc (· ^^^ ·)
      (fun v => boolWord (lessUnsigned 0#32 v)) rfl (fun _ _ => rfl) second
  case sge =>
    rw [← not_lessSigned]
    exact ComputesInPlace.writes_opposite ⟨rfl, rfl, fun _ => rfl⟩ hs hd hr hsrc lessSigned rfl fun _ _ => rfl
  case sgeu =>
    rw [← not_lessUnsigned]
    exact ComputesInPlace.writes_opposite ⟨rfl, rfl, fun _ => rfl⟩ hs hd hr hsrc lessUnsigned rfl fun _ _ => rfl
  case sgt =>
    exact ComputesInPlace.writes_of_word ⟨rfl, rfl, fun _ => rfl⟩ hs hd hr hsrc
      (fun a b => boolWord (lessSigned b a)) rfl fun _ _ => rfl
  case sgtu =>
    exact ComputesInPlace.writes_of_word ⟨rfl, rfl, fun _ => rfl⟩ hs hd hr hsrc
      (fun a b => boolWord (lessUnsigned b a)) rfl fun _ _ => rfl
  case sle =>
    rw [← not_lessSigned]
    exact ComputesInPlace.writes_opposite ⟨rfl, rfl, fun _ => rfl⟩ hs hd hr hsrc (fun a b => lessSigned b a) rfl
      fun _ _ => rfl
  case sleu =>
    rw [← not_lessUnsigned]
    exact ComputesInPlace.writes_opposite ⟨rfl, rfl, fun _ => rfl⟩ hs hd hr hsrc (fun a b => lessUnsigned b a) rfl
      fun _ _ => rfl

end Sys2Proof.Machine
end

section
/-! PROOFS. The bare branches and jumps: where they lead, and on what condition (R106, R107, R231, R236, R240, R241,
R244, R247, R248, R251, R252, R254 to R257, R260, R471 a). -/

namespace Sys2Proof.Machine

/-! Targets. -/

/-- The target of a branch, in the words of R106. -/
theorem branchTarget_eq_ofInt (pc : Word) (imm : Half) :
    branchTarget pc imm = pc + 4#32 + BitVec.ofInt 32 (4 * imm.toInt) := by
  have scaled : signImm imm <<< 2 = BitVec.ofInt 32 (4 * imm.toInt) := by
    rw [← toInt_signImm, BitVec.ofInt_mul, BitVec.ofInt_toInt, BitVec.mul_comm]
    exact BitVec.shiftLeft_eq_mul_twoPow _ 2
  rw [branchTarget, scaled]

/-- The target of a jump, in the words of R107. -/
theorem jumpTarget_eq_ofNat (pc : Word) (field : BitVec 26) :
    jumpTarget pc field = BitVec.ofNat 32 ((pc + 4#32).toNat / 2 ^ 28 * 2 ^ 28 + 4 * field.toNat) := by
  have region : ((pc + 4#32).extractLsb' 28 4).toNat = (pc + 4#32).toNat / 2 ^ 28 := by
    rw [BitVec.extractLsb'_toNat, Nat.shiftRight_eq_div_pow]
    omega
  apply BitVec.eq_of_toNat_eq
  rw [jumpTarget, toNat_append_eq, toNat_append_eq, region, BitVec.toNat_ofNat, BitVec.toNat_ofNat]
  omega

/-! Conditions. -/

theorem bne_eq_decide (a b : Word) : (a != b) = decide (a ≠ b) :=
  (decide_not (p := a = b)).symm

theorem not_isNegative (a : Word) : (!isNegative a) = decide (0 ≤ a.toInt) := by
  rw [isNegative, ← decide_not, decide_eq_decide]
  exact Int.not_lt

theorem not_isPositive (a : Word) : (!isPositive a) = decide (a.toInt ≤ 0) := by
  rw [isPositive, ← decide_not, decide_eq_decide]
  exact Int.not_lt

/-- Settles O28: each word is its instruction's own, and each instruction is a branch on its condition. -/
theorem conditionalBranches : Obligations.ConditionalBranches := by
  intro s rs rt imm h
  simp only [← branchTarget_eq_ofInt, ← bne_eq_decide, ← not_isNegative, ← not_isPositive]
  exact ⟨decodeWord_of_encodeWord rfl, decodeWord_of_encodeWord rfl, decodeWord_of_encodeWord rfl,
    decodeWord_of_encodeWord rfl, decodeWord_of_encodeWord rfl, decodeWord_of_encodeWord rfl,
    s.branch_spec _ _ h, s.branch_spec _ _ h, s.branch_spec _ _ h, s.branch_spec _ _ h,
    s.branch_spec _ _ h, s.branch_spec _ _ h, s.branch_spec _ _ h, s.branch_spec _ _ h⟩

/-- Settles O29: each jump is a branch that is always taken, and each linking one a branch after the write of its link;
condition and target are those of the state before that write. -/
theorem jumpsAndLinks : Obligations.JumpsAndLinks := by
  intro s rd rs imm field h
  simp only [← branchTarget_eq_ofInt, ← jumpTarget_eq_ofNat, ← not_isNegative]
  exact ⟨s.branch_spec _ _ h, s.branch_spec _ _ h, s.branch_link_spec _ _ _ h, s.branch_link_spec _ _ _ h,
    s.branch_link_spec _ _ _ h, s.branch_link_spec _ _ _ h⟩

end Sys2Proof.Machine
end

section
/-! PROOFS. The branch pseudoinstructions: words that write registers, and then a branch word. A branch leads out of the
expansion or back into it, so that it has to be run with no fuel to spare (R106, R121, R233, R237 to R239,
R242, R243, R245, R246, R249, R250, R253, R261, R471 f). -/

namespace Sys2Proof

/-- What follows the loading of an operand may be cut in two (R118). -/
theorem withSrc_append (src : Src2) (f : RegIdx → List Item) (rest : List Item) :
    (withSrc src fun rt => f rt ++ rest) = withSrc src f ++ rest := by
  cases src <;> simp [withSrc]

namespace Machine

/-! Words that write registers. -/

/-- The piece is a word that writes a general register in every state. -/
def WritesRegister (it : Item) : Prop :=
  ∃ (i : Instr) (rd : RegIdx) (f : State → Word), it = .word i ∧ ∀ t, wordEffect i t = t.write rd (f t)

theorem writesRegister_liWords (rd : RegIdx) (k : Word) : ∀ it ∈ (liWords rd k).map .word, WritesRegister it := by
  have addiu imm : WritesRegister (.word (.addiu rd 0#5 imm)) := ⟨_, rd, _, rfl, fun _ => rfl⟩
  have ori r imm : WritesRegister (.word (.ori rd r imm)) := ⟨_, rd, _, rfl, fun _ => rfl⟩
  have lui imm : WritesRegister (.word (.lui rd imm)) := ⟨_, rd, _, rfl, fun _ => rfl⟩
  unfold liWords
  split_ifs <;> simp [addiu, ori, lui]

/-- Loading an operand writes registers only, `$at` for a constant (R118). -/
theorem writesRegister_withSrc (src : Src2) {w : RegIdx → Instr} (h : ∀ rt, WritesRegister (.word (w rt))) :
    ∀ it ∈ withSrc src fun rt => [.word (w rt)], WritesRegister it := by
  cases src with
  | reg r => exact List.forall_mem_singleton.mpr (h r)
  | const k =>
    exact List.forall_mem_append.mpr ⟨writesRegister_liWords regAt k, List.forall_mem_singleton.mpr (h regAt)⟩

/-- Words that write registers run to their end one after another, and then the words of the other pieces run with the
fuel that is left. -/
theorem runWords_layout_append {delay : Bool} {front : List Item} (writes : ∀ it ∈ front, WritesRegister it)
    (rest : List Item) {s : State} (hs : s.Settled) :
    ∃ t, runWords (layout delay front).length (layout delay front) s = .done t ∧
      runWords (layout delay (front ++ rest)).length (layout delay (front ++ rest)) s =
        runWords (layout delay rest).length (layout delay rest) t := by
  induction front generalizing s with
  | nil => exact ⟨s, rfl, rfl⟩
  | cons it front ih =>
    obtain ⟨⟨i, rd, f, rfl, effect⟩, others⟩ := List.forall_mem_cons.mp writes
    obtain ⟨_, ⟨⟩, -, -, -, -, -, goesOn, load⟩ := s.write_spec rd (f s)
    have next fuel ws := runWords_next fuel i ws s _ (effect s) (goesOn.pc_of_settled hs)
    obtain ⟨t, run, run'⟩ := ih others (s := (s.setX rd (f s)).retire) ⟨fun _ => goesOn.1, fun _ => load⟩
    exact ⟨t, (next _ _).trans run, (next _ _).trans run'⟩

theorem length_layout_append {delay : Bool} {front : List Item} (writes : ∀ it ∈ front, WritesRegister it)
    (rest : List Item) : (layout delay (front ++ rest)).length =
      (layout delay front).length + (layout delay rest).length := by
  induction front with
  | nil => exact (Nat.zero_add _).symm
  | cons it front ih =>
    obtain ⟨⟨i, rd, f, rfl, -⟩, others⟩ := List.forall_mem_cons.mp writes
    rw [List.cons_append, layout, layout, List.length_cons, List.length_cons, ih others, Nat.add_right_comm]

theorem layout_words (delay : Bool) (ws : List Instr) : layout delay (ws.map .word) = ws := by
  induction ws with
  | nil => rfl
  | cons i ws ih => exact congrArg (i :: ·) ih

theorem length_layout_withSrc (delay : Bool) (src : Src2) (w : RegIdx → Instr) :
    (layout delay (withSrc src fun rt => [.word (w rt)])).length = constantWords src + 1 := by
  cases src with
  | reg r => rfl
  | const k =>
    rw [withSrc, length_layout_append (writesRegister_liWords regAt k), layout_words]
    rfl

/-! The branch word. -/

/-- The branch word, and the `nop` in its slot, as the last words of an expansion: control goes to the target, or on
after them (R231, R471). -/
theorem runWords_branchItem {t : State} {delay taken : Bool} {b : Instr} {target : Word}
    (slots : t.params.branchDelaySlot = delay) (settled : t.Settled) (effect : wordEffect b t = t.branch taken target) :
    ∃ count, runWords (layout delay [.branch b]).length (layout delay [.branch b]) t =
      .done (t.sentTo (if taken then target else t.pc + BitVec.ofNat 32 (4 * (layout delay [.branch b]).length)) none
        count) := by
  cases delay with
  | false =>
    rw [t.branch_without_slots taken target slots] at effect
    exact ⟨t.freeCount + 1, by simp [layout, slotNop, runWords, effect]⟩
  | true =>
    rw [t.branch_with_slots taken target slots settled] at effect
    refine ⟨t.freeCount + 1 + 1, (runWords_next 1 b _ t _ effect rfl).trans ?_⟩
    simp [layout, slotNop, runWords, nop_in_slot t _ _ _ slots]

/-- The registers before the branch word: its condition `c` is settled, and only `$at` may have been written, and that
where `usesAt`. -/
structure BeforeBranch (s : State) (c : Regs → Bool) (taken usesAt : Bool) (m : Regs) : Prop where
  condition : c m = taken
  others : ∀ r, (usesAt = true → r ≠ regAt) → m.x r = s.x r
  hi : m.hi = s.hi
  lo : m.lo = s.lo

/-- A pseudoinstruction whose words write registers, and then branch (R106, R121, R122). -/
theorem pseudoBranches_of_leads {s : State} {i b : Instr} {front : List Item} {k : Nat} {c : Regs → Bool}
    {taken usesAt : Bool} {off : Half} (hs : s.Settled) (hp : i.isPseudo = true) (hw : wellFormed i = true)
    (hAt : usesAt = false → ∀ free, assemblerTempAfter i free = none)
    (words : expansion s.params.bigEndian i = front ++ [.branch b]) (writes : ∀ it ∈ front, WritesRegister it)
    (length : (layout s.params.branchDelaySlot front).length = k)
    (effect : ∀ t, wordEffect b t = t.branch (c t.regs) (branchTarget t.pc off))
    (run : Leads s k 0 s.regs front (Finishes s k (BeforeBranch s c taken usesAt))) :
    PseudoBranches i s taken k off usesAt := by
  obtain ⟨t, front_runs, rest_runs⟩ :=
    runWords_layout_append (delay := s.params.branchDelaySlot) writes [.branch b] hs
  obtain ⟨_, m, done, computed, condition, others, hi, lo⟩ := run s (.start hs) ((Nat.zero_add _).trans length) _ le_rfl
  obtain rfl := Effect.done.inj (front_runs.symm.trans done)
  have branches : wordEffect b t = t.branch taken (branchTarget t.pc off) := by
    rw [effect t, computed.regs, condition]
  obtain ⟨count, branch_runs⟩ :=
    runWords_branchItem (congrArg Params.branchDelaySlot computed.system.1) computed.settled branches
  have expanded : expand s.params.bigEndian s.params.branchDelaySlot i =
      layout s.params.branchDelaySlot (front ++ [.branch b]) := congrArg _ words
  have ends := exec_of_runWords hp hw expanded (rest_runs.trans branch_runs)
  obtain ⟨gpr, hiLo, fp, memory, system, pc, target, load⟩ := (t.sentTo _ none count).afterPseudo_spec i usesAt hAt
  refine ⟨_, ends, pc.trans ?_, fun r hr => (gpr r hr).trans (computed.readSlot_same hs fun _ => others r hr),
    ⟨hiLo.1.trans (computed.hi_eq.trans hi), hiLo.2.trans (computed.lo_eq.trans lo)⟩, computed.fp.trans fp,
    computed.memory.trans memory, computed.system.trans system, target, load⟩
  have after : t.pc + BitVec.ofNat 32 (4 * (layout s.params.branchDelaySlot [.branch b]).length) =
      s.afterExpansion i := by
    rw [State.afterExpansion, expanded, length_layout_append writes, length, computed.pc, BitVec.add_assoc,
      ← BitVec.ofNat_add, Nat.mul_add]
  have word : branchTarget t.pc off = s.pc + BitVec.ofNat 32 (4 * (k + 1)) + BitVec.ofInt 32 (4 * off.toInt) := by
    rw [branchTarget_eq_ofInt, computed.pc, BitVec.add_assoc s.pc, Nat.mul_succ, BitVec.ofNat_add]
  exact congrArg₂ (if taken = true then · else ·) word after

/-! The forms of the expansions. -/

/-- A branch word alone (R233, R237, R253). -/
theorem pseudoBranches_of_branch {s : State} {i b : Instr} {off : Half} (c : Regs → Bool) (hs : s.Settled)
    (hp : i.isPseudo = true) (hw : wellFormed i = true) (hAt : ∀ free, assemblerTempAfter i free = none)
    (words : expansion s.params.bigEndian i = [.branch b])
    (effect : ∀ t, wordEffect b t = t.branch (c t.regs) (branchTarget t.pc off)) :
    PseudoBranches i s (c s.regs) 0 off false :=
  pseudoBranches_of_leads hs hp hw (fun _ => hAt) words (List.forall_mem_nil _) rfl effect
    (.finish ⟨rfl, fun _ _ => rfl, rfl, rfl⟩)

/-- What R118 and R121 say alike of the pseudoinstructions that compare `rs` with `src` and branch: the words end in a
comparison into `$at`, of which `less` is known, and a branch on `$at`. -/
structure ComparesInAt (s : State) (i : Instr) (rs : RegIdx) (src : Src2) (less : Word → Word → Bool) (b : Instr) :
    Prop where
  isPseudo : i.isPseudo = true
  wellFormed_eq : wellFormed i = (notAt rs && src.notAt)
  words : ∃ w : RegIdx → Instr,
    (expansion s.params.bigEndian i = withSrc src fun rt => [.word (w rt), .branch b]) ∧
      ∀ rt (t : State), wordEffect (w rt) t = t.write regAt (boolWord (less (t.x rs) (t.x rt)))

section
variable {s : State} {i : Instr} {rs : RegIdx} {src : Src2} {less : Word → Word → Bool} {off : Half}
  (hs : s.Settled) (hr : notAt rs = true) (hsrc : src.notAt = true)
include hs hr hsrc

theorem ComparesInAt.branches {b : Instr} (compares : ComparesInAt s i rs src less b) (test : Word → Bool)
    (effect : ∀ t : State, wordEffect b t = t.branch (test (t.x regAt)) (branchTarget t.pc off)) :
    PseudoBranches i s (test (boolWord (less (s.x rs) (s.srcValue src)))) (constantWords src + 1) off true := by
  obtain ⟨w, words, comparison⟩ := compares.words
  refine pseudoBranches_of_leads (c := fun m => test (m.x regAt)) hs compares.isPseudo
    (by simp [compares.wellFormed_eq, hr, hsrc]) nofun
    (words.trans (withSrc_append src (fun rt => [.word (w rt)]) [.branch b]))
    (writesRegister_withSrc src fun rt => ⟨_, regAt, _, rfl, comparison rt⟩) (length_layout_withSrc _ src w) effect ?_
  refine .operand fun rt m o => .write (fun m => boolWord (less (m.x rs) (m.x rt))) (comparison rt) (.finish ?_)
  rw [o.value, o.x_eq hr]
  exact ⟨congrArg test (m.write_x_at _),
    fun r apart => (m.write_x_other _ (apart rfl)).trans (o.others r fun _ => apart rfl), o.hi, o.lo⟩

/-- `bne` on the comparison goes where it holds (R121). -/
theorem ComparesInAt.branches_if_set (compares : ComparesInAt s i rs src less (.bne regAt 0#5 off)) :
    PseudoBranches i s (less (s.x rs) (s.srcValue src)) (constantWords src + 1) off true := by
  have nonzero (c : Bool) : (boolWord c != 0#32) = c := by cases c <;> rfl
  rw [← nonzero (less _ _)]
  exact compares.branches hs hr hsrc (· != 0#32) fun _ => rfl

/-- `beq` on the comparison goes where it does not hold (R121). -/
theorem ComparesInAt.branches_if_clear (compares : ComparesInAt s i rs src less (.beq regAt 0#5 off)) :
    PseudoBranches i s (!less (s.x rs) (s.srcValue src)) (constantWords src + 1) off true := by
  have zero (c : Bool) : (boolWord c == 0#32) = !c := by cases c <;> rfl
  rw [← zero]
  exact compares.branches hs hr hsrc (· == 0#32) fun _ => rfl

end

/-- Settles O32: `b`, `beqz` and `bnez` are a branch word; `bgt` and `blt` branch on a comparison, one of them with the
operands the other way round, and `bge` and `ble` on its opposite; so do those that compare unsigned. -/
theorem branchPseudoinstructions : Obligations.BranchPseudoinstructions := by
  intro s rs src off hs hr hsrc a b k
  refine ⟨?b, ?beqz, ?bnez, ?bge, ?bgeu, ?bgt, ?bgtu, ?ble, ?bleu, ?blt, ?bltu⟩
  case b => exact pseudoBranches_of_branch (fun _ => true) hs rfl rfl (fun _ => rfl) rfl fun _ => rfl
  case beqz => exact pseudoBranches_of_branch (fun m => m.x rs == 0#32) hs rfl hr (fun _ => rfl) rfl fun _ => rfl
  case bnez =>
    rw [← bne_eq_decide]
    exact pseudoBranches_of_branch (fun m => m.x rs != 0#32) hs rfl hr (fun _ => rfl) rfl fun _ => rfl
  case bge =>
    rw [← not_lessSigned]
    exact ComparesInAt.branches_if_clear (less := lessSigned) hs hr hsrc ⟨rfl, rfl, _, rfl, fun _ _ => rfl⟩
  case bgeu =>
    rw [← not_lessUnsigned]
    exact ComparesInAt.branches_if_clear (less := lessUnsigned) hs hr hsrc ⟨rfl, rfl, _, rfl, fun _ _ => rfl⟩
  case bgt =>
    exact ComparesInAt.branches_if_set (less := fun a b => lessSigned b a) hs hr hsrc
      ⟨rfl, rfl, _, rfl, fun _ _ => rfl⟩
  case bgtu =>
    exact ComparesInAt.branches_if_set (less := fun a b => lessUnsigned b a) hs hr hsrc
      ⟨rfl, rfl, _, rfl, fun _ _ => rfl⟩
  case ble =>
    rw [← not_lessSigned]
    exact ComparesInAt.branches_if_clear (less := fun a b => lessSigned b a) hs hr hsrc
      ⟨rfl, rfl, _, rfl, fun _ _ => rfl⟩
  case bleu =>
    rw [← not_lessUnsigned]
    exact ComparesInAt.branches_if_clear (less := fun a b => lessUnsigned b a) hs hr hsrc
      ⟨rfl, rfl, _, rfl, fun _ _ => rfl⟩
  case blt => exact ComparesInAt.branches_if_set (less := lessSigned) hs hr hsrc ⟨rfl, rfl, _, rfl, fun _ _ => rfl⟩
  case bltu => exact ComparesInAt.branches_if_set (less := lessUnsigned) hs hr hsrc ⟨rfl, rfl, _, rfl, fun _ _ => rfl⟩

end Machine
end Sys2Proof
end

section
/-! PROOFS. The loads, and the moves to and from floating point registers: a load whose checks pass writes one register
with what it reads (R280, R283, R284, R286 to R291, R335, R337, R472). -/

namespace Sys2Proof.Machine

theorem State.loadAt_loadsGpr (s : State) {a : Word} {aligned : Bool} {span : List Word} (rt : RegIdx) (v : Word)
    (partialWord : Bool) (ha : aligned = true) (hc : s.CanAccess a span) :
    LoadsGpr (s.loadAt a aligned span (.done ((s.setX rt v).retireLoad (.gpr rt partialWord)))).outcome s rt v
      partialWord := by
  rw [s.loadAt_passes a aligned span _ ha hc]
  exact s.setX_retireLoad_spec rt v partialWord

/-- Settles O33: each load is a `loadAt` whose checks pass; the extensions are by definition those of the value read. -/
theorem alignedLoads : Obligations.AlignedLoads := by
  intro s rt rs imm a
  refine ⟨fun hc => ⟨?lb, ?lbu⟩, fun ha hc => ⟨?lh, ?lhu⟩, fun ha hc => ?lw⟩
  case lb => exact s.loadAt_loadsGpr rt ((s.byte a).signExtend 32) false rfl hc
  case lbu =>
    rw [BitVec.ofNat_toNat]
    exact s.loadAt_loadsGpr rt ((s.byte a).setWidth 32) false rfl hc
  case lh => exact s.loadAt_loadsGpr rt ((s.half a).signExtend 32) false ((aligned2_iff a).mpr ha) hc
  case lhu =>
    rw [BitVec.ofNat_toNat]
    exact s.loadAt_loadsGpr rt ((s.half a).setWidth 32) false ((aligned2_iff a).mpr ha) hc
  case lw => exact s.loadAt_loadsGpr rt (s.word a) false ((aligned4_iff a).mpr ha) hc

/-- Settles O43: the two moves load a register without an access, `lwc1` with one whose checks pass. -/
theorem fpRegisterMoves : Obligations.FpRegisterMoves := by
  intro s rt r rs imm a
  refine ⟨?mfc1, ?mtc1, fun ha hc => ?lwc1⟩
  case mfc1 => exact s.setX_retireLoad_spec rt (s.f r) false
  case mtc1 => exact s.setF_retireLoad_spec r (s.x rt)
  case lwc1 =>
    have passes := s.loadAt_passes a _ (wordSpan a) (.done ((s.setF r (s.word a)).retireLoad (.fpr r)))
      ((aligned4_iff a).mpr ha) hc
    exact (congrArg (LoadsFpr ·.outcome s r (s.word a)) passes).mpr (s.setF_retireLoad_spec r (s.word a))

/-! The bytes of a partial-word load. -/

theorem toNat_lowBits (a : Word) : (a.extractLsb' 0 2).toNat = a.toNat % 4 := by simp [BitVec.extractLsb'_toNat]

theorem alignedWord_eq (a : Word) : alignedWord a = a - BitVec.ofNat 32 (a.toNat % 4) := by
  apply BitVec.eq_of_toNat_eq
  rw [alignedWord, toNat_append_eq, BitVec.extractLsb'_toNat, Nat.shiftRight_eq_div_pow, BitVec.toNat_sub,
    BitVec.toNat_ofNat, BitVec.toNat_ofNat]
  omega

theorem leftAddress_bigEndian (a : Word) (k : Nat) :
    leftAddress true a k = if a.toNat % 4 ≤ k then some (a + BitVec.ofNat 32 (3 - k)) else none := by
  rw [← toNat_lowBits]
  rfl

theorem leftAddress_littleEndian (a : Word) (k : Nat) :
    leftAddress false a k = if 3 ≤ k + a.toNat % 4 then some (a - BitVec.ofNat 32 (3 - k)) else none := by
  rw [← toNat_lowBits]
  rfl

theorem rightAddress_bigEndian (a : Word) (k : Nat) :
    rightAddress true a k = if k ≤ a.toNat % 4 then some (a - BitVec.ofNat 32 k) else none := by
  rw [← toNat_lowBits]
  rfl

theorem rightAddress_littleEndian (a : Word) (k : Nat) :
    rightAddress false a k = if k + a.toNat % 4 ≤ 3 then some (a + BitVec.ofNat 32 k) else none := by
  rw [← toNat_lowBits]
  rfl

/-- Byte `k` of the register after a partial-word load (R290, R291). -/
theorem State.extractLsb'_merged (s : State) (address : Nat → Option Word) (old : Word) {k : Nat} (hk : k ≤ 3) :
    (s.merged address old).extractLsb' (8 * k) 8 = s.mergedByte address old k := by
  apply BitVec.eq_of_toNat_eq
  rw [State.merged, BitVec.extractLsb'_toNat, Nat.shiftRight_eq_div_pow]
  simp only [toNat_append_eq]
  have b0 := (s.mergedByte address old 0).isLt
  have b1 := (s.mergedByte address old 1).isLt
  have b2 := (s.mergedByte address old 2).isLt
  have b3 := (s.mergedByte address old 3).isLt
  interval_cases k <;> omega

theorem State.merged_byte_of_some (s : State) {address : Nat → Option Word} (old : Word) {k : Nat} {p : Word}
    (hk : k ≤ 3) (h : address k = some p) : (s.merged address old).extractLsb' (8 * k) 8 = s.byte p := by
  rw [s.extractLsb'_merged address old hk, State.mergedByte, h]

theorem State.merged_byte_of_none (s : State) {address : Nat → Option Word} (old : Word) {k : Nat} (hk : k ≤ 3)
    (h : address k = none) : (s.merged address old).extractLsb' (8 * k) 8 = old.extractLsb' (8 * k) 8 := by
  rw [s.extractLsb'_merged address old hk, State.mergedByte, h]

/-- Settles O34: the checks of the aligned word pass, and byte by byte the merge is that of the formulas, for each
instruction and byte order. -/
theorem unalignedLoadsMerge : Obligations.UnalignedLoadsMerge := by
  intro s rt rs imm a b old hc
  rw [← alignedWord_eq] at hc
  have low : b < 4 := Nat.mod_lt _ (by decide)
  refine ⟨⟨_, s.loadAt_loadsGpr rt (s.merged (leftAddress s.params.bigEndian a) old) true rfl hc, ?_⟩,
    ⟨_, s.loadAt_loadsGpr rt (s.merged (rightAddress s.params.bigEndian a) old) true rfl hc, ?_⟩⟩
  · cases s.params.bigEndian with
    | true =>
      refine ⟨fun i hi => s.merged_byte_of_some old (by omega) ?_,
        fun k hk => s.merged_byte_of_none old (by omega) ?_⟩
      · rw [leftAddress_bigEndian, if_pos (by omega), Nat.sub_sub_self (by omega)]
      · rw [leftAddress_bigEndian, if_neg (by omega)]
    | false =>
      refine ⟨fun i hi => s.merged_byte_of_some old (by omega) ?_,
        fun k hk => s.merged_byte_of_none old (by omega) ?_⟩
      · rw [leftAddress_littleEndian, if_pos (by omega), Nat.sub_sub_self (by omega)]
      · rw [leftAddress_littleEndian, if_neg (by omega)]
  · cases s.params.bigEndian with
    | true =>
      refine ⟨fun i hi => s.merged_byte_of_some old (by omega) ?_,
        fun k hk hk' => s.merged_byte_of_none old hk' ?_⟩
      · rw [rightAddress_bigEndian, if_pos hi]
      · rw [rightAddress_bigEndian, if_neg (by omega)]
    | false =>
      refine ⟨fun i hi => s.merged_byte_of_some old (by omega) ?_,
        fun k hk hk' => s.merged_byte_of_none old hk' ?_⟩
      · rw [rightAddress_littleEndian, if_pos (by omega)]
      · rw [rightAddress_littleEndian, if_neg (by omega)]

end Sys2Proof.Machine
end

section
/-! PROOFS. The pseudoinstructions that load general registers: after each word it is told what the registers hold and
which load is in its delay; only `lwr` after `lwl` reads the register of one (R121, R285, R292 to R294, R336, R472). -/

namespace Sys2Proof.Machine

/-! Between the words. -/

/-- What the registers hold, those in a load's delay too. -/
def State.slots (s : State) : Regs := ⟨readSlot s.gpr, s.hi, s.lo⟩

/-- The state `t` that `n` words have made of `s`: its registers hold what `m` says, the load in `delayed` is in its
delay where there are load delay slots, and nothing else has changed. -/
structure Loaded (s t : State) (n : Nat) (m : Regs) (delayed : Option LoadPending) : Prop where
  slots : t.slots = m
  zero : readSlot t.gpr 0#5 = readSlot s.gpr 0#5
  fp : SameFp s t
  memory : SameMemory s t
  system : SameSystem s t
  pc : t.pc = s.pc + BitVec.ofNat 32 (4 * n)
  noTarget : s.params.branchDelaySlot = true → t.pendingTarget = none
  delay : s.params.loadDelaySlot = true → t.loadPending = delayed
  retired : 0 < n → t.pendingTarget = none ∧ t.loadPending = if s.params.loadDelaySlot = true then delayed else none

theorem State.canAccess_congr {s t : State} (h : SameSystem s t) (a : Word) (span : List Word) :
    t.CanAccess a span ↔ s.CanAccess a span := by
  obtain ⟨params, status, -⟩ := h
  simp only [State.CanAccess, State.mapped, State.userMode, params, status]

namespace Loaded

theorem start {s : State} (hs : s.Settled) : Loaded s s 0 s.slots none :=
  ⟨rfl, rfl, .refl s, .refl s, .refl s, (BitVec.add_zero _).symm, hs.1, hs.2, nofun⟩

variable {s t : State} {n : Nat} {m : Regs} {delayed : Option LoadPending} {i : Instr} {rd : RegIdx} {v : Word}

theorem pending (l : Loaded s t n m delayed) : t.params.loadDelaySlot = false ∨ t.loadPending = delayed := by
  rw [l.system.1]
  cases delays : s.params.loadDelaySlot with
  | false => exact .inl rfl
  | true => exact .inr (l.delay delays)

theorem gprDelayed (l : Loaded s t n m delayed) {r : RegIdx} (apart : ∀ b, delayed ≠ some (.gpr r b)) :
    t.gprDelayed r = false := by
  rcases l.pending with off | load
  · simp [State.gprDelayed, off]
  · rcases delayed with _ | ⟨q, b⟩ | q
    case some.gpr =>
      have other : q ≠ r := fun same => apart b (same ▸ rfl)
      simp [State.gprDelayed, load, other]
    all_goals simp [State.gprDelayed, load]

theorem fprDelayed (l : Loaded s t n m delayed) {r : RegIdx} (apart : delayed ≠ some (.fpr r)) :
    t.fprDelayed r = false := by
  rcases l.pending with off | load
  · simp [State.fprDelayed, off]
  · rcases delayed with _ | ⟨q, b⟩ | q
    case some.fpr =>
      have other : q ≠ r := fun same => apart (same ▸ rfl)
      simp [State.fprDelayed, load, other]
    all_goals simp [State.fprDelayed, load]

/-- A register that is not in its load's delay reads as it holds. -/
theorem x_eq (l : Loaded s t n m delayed) {r : RegIdx} (apart : ∀ b, delayed ≠ some (.gpr r b)) :
    t.x r = if r = 0#5 then 0#32 else m.x r := by
  rw [t.x_of_settled r (l.gprDelayed apart), ← l.slots]
  rfl

/-- A base register that no word has written, so that addresses are still those of `s`. -/
theorem ea_eq (l : Loaded s t n m delayed) (hs : s.Settled) {base : RegIdx}
    (apart : ∀ b, delayed ≠ some (.gpr base b)) (held : m.x base = readSlot s.gpr base) (imm : Half) :
    t.ea imm base = s.ea imm base := by
  rw [State.ea, l.x_eq apart, held, ← s.x_of_settled base (hs.gprDelayed base)]
  rfl

/-- `lwl` and `lwr` read the register they merge into as it holds, also where the other has just loaded it (R472). -/
theorem xMerged_eq (l : Loaded s t (n + 1) m (some (.gpr rd true))) :
    t.xMerged rd = if rd = 0#5 then 0#32 else m.x rd := by
  obtain ⟨-, load⟩ := l.retired n.succ_pos
  rw [← l.slots, State.xMerged, load]
  cases delays : s.params.loadDelaySlot with
  | true => rfl
  | false =>
    have settled : t.gprDelayed rd = false := by simp [State.gprDelayed, l.system.1, delays]
    exact t.x_of_settled rd settled

/-- A word that writes a general register, and may leave it in a load's delay. -/
theorem advance (l : Loaded s t n m delayed) {u : State} {next : Option LoadPending}
    (effect : wordEffect i t = .done u) (gpr : GprWritten t u rd v) (hiLo : SameHiLo t u) (fp : SameFp t u)
    (memory : SameMemory t u) (system : SameSystem t u) (goesOn : GoesOn t u)
    (load : u.loadPending = if t.params.loadDelaySlot = true then next else none) :
    (∀ fuel rest, runWords (fuel + 1) (i :: rest) t = runWords fuel rest u) ∧
      Loaded s u (n + 1) (m.write rd v) next := by
  have pc : u.pc = t.pc + 4#32 := by
    rw [goesOn.2, l.system.1]
    split
    · next slots => rw [l.noTarget slots, Option.getD_none]
    · rfl
  rw [l.system.1] at load
  have zero : readSlot u.gpr 0#5 = readSlot t.gpr 0#5 := (gpr 0#5).trans (if_neg fun e => e.2 rfl)
  refine ⟨fun fuel rest => runWords_next fuel i rest t u effect pc, ?_, zero.trans l.zero, l.fp.trans fp,
    l.memory.trans memory, l.system.trans system, ?_, fun _ => goesOn.1, fun delays => load.trans (if_pos delays),
    fun _ => ⟨goesOn.1, load⟩⟩
  · have holds : readSlot u.gpr = (m.write rd v).x := by
      funext r
      rw [gpr r, ← l.slots]
      exact if_congr (and_congr_right fun e => by rw [e]) rfl rfl
    rw [← l.slots] at holds ⊢
    exact congr (congrArg₂ Regs.mk holds hiLo.1) hiLo.2
  · rw [pc, l.pc, BitVec.add_assoc, ← BitVec.ofNat_add, Nat.mul_succ]

/-- A word that computes. -/
theorem write (l : Loaded s t n m delayed) (effect : wordEffect i t = t.write rd v) :
    ∃ u, (∀ fuel rest, runWords (fuel + 1) (i :: rest) t = runWords fuel rest u) ∧
      Loaded s u (n + 1) (m.write rd v) none := by
  obtain ⟨_, ⟨⟩, gpr, hiLo, fp, memory, system, goesOn, load⟩ := t.write_spec rd v
  exact ⟨_, l.advance effect gpr hiLo fp memory system goesOn (load.trans (ite_self none).symm)⟩

/-- A word that loads a general register, from memory or not. -/
theorem loadsGpr (l : Loaded s t n m delayed) {b : Bool}
    (effect : wordEffect i t = .done ((t.setX rd v).retireLoad (.gpr rd b))) :
    ∃ u, (∀ fuel rest, runWords (fuel + 1) (i :: rest) t = runWords fuel rest u) ∧
      Loaded s u (n + 1) (m.write rd v) (some (.gpr rd b)) := by
  obtain ⟨_, ⟨⟩, gpr, hiLo, fp, memory, system, goesOn, load⟩ := t.setX_retireLoad_spec rd v b
  exact ⟨_, l.advance effect gpr hiLo fp memory system goesOn load⟩

/-- A word that loads a general register from memory, with an access whose checks pass. -/
theorem loadsFrom (l : Loaded s t n m delayed) {a : Word} {aligned : Bool} {span : List Word} {b : Bool}
    (effect : wordEffect i t = t.loadAt a aligned span (.done ((t.setX rd v).retireLoad (.gpr rd b))))
    (ha : aligned = true) (hc : s.CanAccess a span) :
    ∃ u, (∀ fuel rest, runWords (fuel + 1) (i :: rest) t = runWords fuel rest u) ∧
      Loaded s u (n + 1) (m.write rd v) (some (.gpr rd b)) :=
  l.loadsGpr (effect.trans (t.loadAt_passes a aligned span _ ha ((State.canAccess_congr l.system a span).mpr hc)))

/-- After the last word the pseudoinstruction has completed (R121, R122, R472). -/
theorem completes (l : Loaded s t (n + 1) m delayed) {words : List Instr} {written : List (RegIdx × Word)}
    {usesAt : Bool} (hp : i.isPseudo = true) (hw : wellFormed i = true)
    (he : expand s.params.bigEndian s.params.branchDelaySlot i = words) (hn : words.length = n + 1)
    (hr : runWords words.length words s = .done t) (hAt : usesAt = false → ∀ v, assemblerTempAfter i v = none)
    (apart : ∀ p ∈ written, usesAt = true → p.1 ≠ regAt)
    (values : ∀ p ∈ written, p.1 ≠ 0#5 → m.x p.1 = p.2)
    (others : ∀ r, (∀ p ∈ written, p.1 ≠ r) → (usesAt = true → r ≠ regAt) → m.x r = readSlot s.gpr r)
    (hiLo : m.hi = s.hi ∧ m.lo = s.lo) : PseudoLoads i s written usesAt delayed := by
  obtain ⟨gpr, hiLo', fp, memory, system, pc, target, load⟩ := t.afterPseudo_spec i usesAt hAt
  obtain ⟨noTarget, delay⟩ := l.retired n.succ_pos
  have holds r : readSlot t.gpr r = m.x r := congrFun (congrArg Regs.x l.slots) r
  refine ⟨_, exec_of_runWords hp hw he hr, fun p hp nonzero => ?_, fun r hr => ?_, ?_, l.fp.trans fp,
    l.memory.trans memory, l.system.trans system, ?_, target.trans noTarget, load.trans delay⟩
  · rw [gpr p.1 (apart p hp), holds, values p hp nonzero]
  · rcases hr with rfl | ⟨unwritten, notAt⟩
    · rw [gpr 0#5 fun _ => by decide, l.zero]
    · rw [gpr r notAt, holds, others r unwritten notAt]
  · exact SameHiLo.trans ⟨(congrArg Regs.hi l.slots).trans hiLo.1, (congrArg Regs.lo l.slots).trans hiLo.2⟩ hiLo'
  · rw [pc, l.pc, State.afterExpansion, he, hn]

end Loaded

/-! Two registers: `ld` and `mfc1.d`. -/

/-- Two words that load `rd` and the register after it. -/
theorem pseudoLoads_pair {s t u : State} {i w₁ w₂ : Instr} {rd : RegIdx} {v v' : Word} (hp : i.isPseudo = true)
    (hw : wellFormed i = true) (he : expand s.params.bigEndian s.params.branchDelaySlot i = [w₁, w₂])
    (hAt : ∀ v, assemblerTempAfter i v = none) (last : rd ≠ 31#5)
    (run : ∀ fuel rest, runWords (fuel + 1) (w₁ :: rest) s = runWords fuel rest t)
    (run' : ∀ fuel rest, runWords (fuel + 1) (w₂ :: rest) t = runWords fuel rest u)
    (l : Loaded s u 2 ((s.slots.write rd v).write (rd + 1#5) v') (some (.gpr (rd + 1#5) false))) :
    PseudoLoads i s [(rd, v), (rd + 1#5, v')] false (some (.gpr (rd + 1#5) false)) := by
  have apart : rd ≠ rd + 1#5 := by bv_omega
  have nonzero : rd + 1#5 ≠ 0#5 := by bv_omega
  have done := (run _ _).trans ((run' _ _).trans (runWords_nil 0 u))
  refine l.completes hp hw he rfl done (fun _ => hAt) (fun _ _ => nofun) ?_ ?_ ⟨rfl, rfl⟩
  · simp only [List.forall_mem_cons]
    refine ⟨fun h => ?_, fun h => ?_, List.forall_mem_nil _⟩
    · rw [Regs.write_x_other _ _ apart, Regs.write_x_same _ _ h]
    · rw [Regs.write_x_same _ _ h]
  · intro r unwritten _
    simp only [List.forall_mem_cons] at unwritten
    obtain ⟨first, second, -⟩ := unwritten
    rw [Regs.write_x_other _ _ (Ne.symm second), Regs.write_x_other _ _ (Ne.symm first)]
    rfl

/-- The base of `ld` is not its first register, so the second address does not depend on the first load. -/
theorem ld_loads {s : State} (hs : s.Settled) {rd base : RegIdx} {k : Half}
    (hw : wellFormed (.pLd rd k base) = true) (ha : (s.ea k base).toNat % 4 = 0)
    (hc : s.CanAccess (s.ea k base) (wordSpan (s.ea k base)))
    (hc' : s.CanAccess (s.ea k base + 4#32) (wordSpan (s.ea k base + 4#32))) :
    PseudoLoads (.pLd rd k base) s [(rd, s.word (s.ea k base)), (rd + 1#5, s.word (s.ea k base + 4#32))] false
      (some (.gpr (rd + 1#5) false)) := by
  have restrictions := hw
  simp only [wellFormed, Bool.and_eq_true, bne_iff_ne] at restrictions
  obtain ⟨⟨⟨-, last⟩, apart⟩, fits⟩ := restrictions
  have ha' : (s.ea k base + 4#32).toNat % 4 = 0 := by
    rw [BitVec.toNat_add, BitVec.toNat_ofNat]
    omega
  obtain ⟨t, run, soFar⟩ :=
    (Loaded.start hs).loadsFrom (i := .lw rd k base) rfl ((aligned4_iff (s.ea k base)).mpr ha) hc
  have second : t.ea (k + 4#16) base = s.ea k base + 4#32 :=
    (soFar.ea_eq hs (by simp [apart]) (Regs.write_x_other _ _ apart.symm) _).trans (ea_add_four fits rfl)
  have word : t.word (t.ea (k + 4#16) base) = s.word (s.ea k base + 4#32) := by
    rw [second, State.word_congr soFar.system soFar.memory]
  obtain ⟨u, run', done⟩ := soFar.loadsFrom (i := .lw (rd + 1#5) (k + 4#16) base) rfl
    ((aligned4_iff _).mpr (second ▸ ha')) (by rwa [second])
  exact pseudoLoads_pair rfl hw rfl (fun _ => rfl) last run run' (word ▸ done)

theorem mfc1D_loads {s : State} (hs : s.Settled) {rd fs : RegIdx} (hw : wellFormed (.pMfc1D rd fs) = true) :
    PseudoLoads (.pMfc1D rd fs) s [(rd, s.f fs), (rd + 1#5, s.f (fs + 1#5))] false
      (some (.gpr (rd + 1#5) false)) := by
  have restrictions := hw
  simp only [wellFormed, Bool.and_eq_true, bne_iff_ne] at restrictions
  obtain ⟨⟨-, last⟩, -⟩ := restrictions
  obtain ⟨t, run, soFar⟩ := (Loaded.start hs).loadsGpr (i := .mfc1 rd fs) rfl
  have second : t.f (fs + 1#5) = s.f (fs + 1#5) := by
    rw [t.f_of_settled _ (soFar.fprDelayed nofun), s.f_of_settled _ ((Loaded.start hs).fprDelayed nofun), soFar.fp.1]
  obtain ⟨u, run', done⟩ := soFar.loadsGpr (i := .mfc1 (rd + 1#5) (fs + 1#5)) rfl
  exact pseudoLoads_pair rfl hw rfl (fun _ => rfl) last run run' (second ▸ done)

/-! One register, from bytes at any address: `ulw`. -/

/-- Where an offset fits 16 bits, it extends to the first one and its distance from it (R121). -/
theorem signImm_add (k : Half) (d : Nat) (h : offsetFits k d = true) :
    signImm (k + BitVec.ofNat 16 d) = signImm k + BitVec.ofNat 32 d := by
  have fits : k.toInt + d ≤ 32767 := by simpa [offsetFits] using h
  have low : -32768 ≤ k.toInt := k.le_toInt
  have sum : (k + BitVec.ofNat 16 d).toInt = k.toInt + d := by
    rw [BitVec.toInt_add, BitVec.toInt_ofNat', Int.add_bmod_bmod]
    exact Int.bmod_eq_of_le (by omega) (by omega)
  calc signImm (k + BitVec.ofNat 16 d) = BitVec.ofInt 32 (k + BitVec.ofNat 16 d).toInt := rfl
    _ = BitVec.ofInt 32 (k.toInt + d) := by rw [sum]
    _ = signImm k + BitVec.ofNat 32 d := by rw [BitVec.ofInt_add, BitVec.ofInt_natCast]; rfl

theorem State.ea_add (s : State) {k : Half} (base : RegIdx) {d : Nat} (h : offsetFits k d = true) :
    s.ea (k + BitVec.ofNat 16 d) base = s.ea k base + BitVec.ofNat 32 d := by
  rw [State.ea, State.ea, signImm_add k d h, BitVec.add_assoc]

theorem State.merged_congr {s t : State} (memory : SameMemory s t) : t.merged = s.merged := by
  have byte : t.byte = s.byte := funext memory.1
  unfold State.merged State.mergedByte
  rw [byte]

/-- A register with the four bytes at `a`, in either byte order, holds the word there (R65). -/
theorem State.eq_word_of_bytes (s : State) {a v : Word}
    (h : ∀ k ≤ 3, v.extractLsb' (8 * k) 8 =
      s.byte (if s.params.bigEndian = true then a + BitVec.ofNat 32 (3 - k) else a + BitVec.ofNat 32 k)) :
    v = s.word a := by
  have b0 := h 0 (by decide)
  have b1 := h 1 (by decide)
  have b2 := h 2 (by decide)
  have b3 := h 3 (by decide)
  rw [← bytes_of_word v, State.word, wordOfBytes]
  cases order : s.params.bigEndian <;> simp_all

/-- Of the bytes of the word at `a`, `lwr` at its last byte loads those that `lwl` at its first has not (R294). -/
theorem State.merged_bigEndian (s : State) (order : s.params.bigEndian = true) (a old : Word) :
    s.merged (rightAddress true (a + 3#32)) (s.merged (leftAddress true a) old) = s.word a := by
  have offset : (a + 3#32).toNat % 4 = (a.toNat + 3) % 4 := by
    rw [BitVec.toNat_add, BitVec.toNat_ofNat]
    omega
  refine s.eq_word_of_bytes fun k hk => ?_
  rw [if_pos order]
  by_cases right : k ≤ (a.toNat + 3) % 4
  · have address : a + 3#32 - BitVec.ofNat 32 k = a + BitVec.ofNat 32 (3 - k) := by interval_cases k <;> bv_omega
    rw [s.merged_byte_of_some _ hk (by rw [rightAddress_bigEndian, offset, if_pos right]), address]
  · have left : a.toNat % 4 ≤ k := by omega
    rw [s.merged_byte_of_none _ hk (by rw [rightAddress_bigEndian, offset, if_neg right]),
      s.merged_byte_of_some _ hk (by rw [leftAddress_bigEndian, if_pos left])]

/-- The other byte order, with the first byte and the last the other way round. -/
theorem State.merged_littleEndian (s : State) (order : s.params.bigEndian = false) (a old : Word) :
    s.merged (rightAddress false a) (s.merged (leftAddress false (a + 3#32)) old) = s.word a := by
  have offset : (a + 3#32).toNat % 4 = (a.toNat + 3) % 4 := by
    rw [BitVec.toNat_add, BitVec.toNat_ofNat]
    omega
  refine s.eq_word_of_bytes fun k hk => ?_
  rw [if_neg (by simp [order])]
  by_cases right : k + a.toNat % 4 ≤ 3
  · rw [s.merged_byte_of_some _ hk (by rw [rightAddress_littleEndian, if_pos right])]
  · have left : 3 ≤ k + (a.toNat + 3) % 4 := by omega
    have address : a + 3#32 - BitVec.ofNat 32 (3 - k) = a + BitVec.ofNat 32 k := by interval_cases k <;> bv_omega
    rw [s.merged_byte_of_none _ hk (by rw [rightAddress_littleEndian, if_neg right]),
      s.merged_byte_of_some _ hk (by rw [leftAddress_littleEndian, offset, if_pos left]), address]

theorem ulw_loads {s : State} (hs : s.Settled) {rd base : RegIdx} {k left right : Half}
    (hw : wellFormed (.pUlw rd k base) = true)
    (he : expand s.params.bigEndian s.params.branchDelaySlot (.pUlw rd k base) =
      [.lwl rd left base, .lwr rd right base])
    (merge : ∀ old, s.merged (rightAddress s.params.bigEndian (s.ea right base))
      (s.merged (leftAddress s.params.bigEndian (s.ea left base)) old) = s.word (s.ea k base))
    (hc : s.CanAccess (s.ea left base) (wordSpan (alignedWord (s.ea left base))))
    (hc' : s.CanAccess (s.ea right base) (wordSpan (alignedWord (s.ea right base)))) :
    PseudoLoads (.pUlw rd k base) s [(rd, s.word (s.ea k base))] false (some (.gpr rd true)) := by
  have restrictions := hw
  simp only [wellFormed, Bool.and_eq_true, bne_iff_ne] at restrictions
  obtain ⟨⟨-, apart⟩, -⟩ := restrictions
  obtain ⟨t, run, soFar⟩ := (Loaded.start hs).loadsFrom (i := .lwl rd left base) rfl rfl hc
  have second : t.ea right base = s.ea right base :=
    soFar.ea_eq hs (by simp [apart]) (Regs.write_x_other _ _ apart.symm) _
  obtain ⟨u, run', done⟩ := soFar.loadsFrom (i := .lwr rd right base) rfl rfl (by rwa [second])
  refine done.completes rfl hw he rfl ((run _ _).trans ((run' _ _).trans (runWords_nil 0 u))) (fun _ _ => rfl)
    (fun _ _ => nofun) ?_ ?_ ⟨rfl, rfl⟩
  · refine List.forall_mem_singleton.mpr fun nonzero => ?_
    rw [Regs.write_x_same _ _ nonzero, second, soFar.system.1, State.merged_congr soFar.memory, soFar.xMerged_eq,
      if_neg nonzero, Regs.write_x_same _ _ nonzero, merge]
  · intro r unwritten _
    have other : r ≠ rd := (unwritten _ (List.mem_singleton_self _)).symm
    rw [Regs.write_x_other _ _ other, Regs.write_x_other _ _ other]
    rfl

/-! `ulh` and `ulhu`. -/

/-- The bytes of a halfword put together, the upper one extended as the halfword is (R292, R293). -/
theorem signExtend_half (upper lower : Byte) :
    upper.signExtend 32 <<< 8 ||| lower.setWidth 32 = (upper ++ lower).signExtend 32 := by
  apply BitVec.eq_of_getLsbD_eq
  intro i hi
  simp only [BitVec.getLsbD_or, BitVec.getLsbD_shiftLeft, BitVec.getLsbD_signExtend, BitVec.getLsbD_setWidth,
    BitVec.getLsbD_append, BitVec.msb_append]
  by_cases low : i < 8
  · simp [low, hi, show i < 16 by omega]
  · have beyond : lower.getLsbD i = false := BitVec.getLsbD_of_ge _ _ (by omega)
    simp [low, hi, beyond, show i - 8 < 32 by omega, show (i - 8 < 8 ↔ i < 16) by omega]

theorem setWidth_half (upper lower : Byte) :
    upper.setWidth 32 <<< 8 ||| lower.setWidth 32 = (upper ++ lower).setWidth 32 := by
  apply BitVec.eq_of_getLsbD_eq
  intro i hi
  simp only [BitVec.getLsbD_or, BitVec.getLsbD_shiftLeft, BitVec.getLsbD_setWidth, BitVec.getLsbD_append]
  by_cases low : i < 8
  · simp [low, hi]
  · have beyond : lower.getLsbD i = false := BitVec.getLsbD_of_ge _ _ (by omega)
    simp [low, hi, beyond, show i - 8 < 32 by omega]

/-- Four words: the upper byte into `rd`, extended, the lower one into `$at`, and the two put together. -/
theorem unalignedHalf_loads {s : State} (hs : s.Settled) {i first : Instr} {rd base : RegIdx} {k upper lower : Half}
    {x v : Word} (hp : i.isPseudo = true) (hw : wellFormed i = true)
    (restrictions : wellFormed i = (notAt rd && notAt base && rd != base && offsetFits k 1))
    (he : expand s.params.bigEndian s.params.branchDelaySlot i =
      [first, .lbu regAt lower base, .sll rd rd 8#5, .or rd rd regAt])
    (effect : wordEffect first s =
      s.loadAt (s.ea upper base) true [s.ea upper base] (.done ((s.setX rd x).retireLoad (.gpr rd false))))
    (value : x <<< 8 ||| (s.byte (s.ea lower base)).setWidth 32 = v)
    (hc : s.CanAccess (s.ea upper base) [s.ea upper base])
    (hc' : s.CanAccess (s.ea lower base) [s.ea lower base]) : PseudoLoads i s [(rd, v)] true none := by
  rw [hw, eq_comm, Bool.and_eq_true, Bool.and_eq_true, Bool.and_eq_true, bne_iff_ne] at restrictions
  obtain ⟨⟨⟨rdNotAt, -⟩, apart⟩, -⟩ := restrictions
  have notAt : rd ≠ regAt := ne_regAt rdNotAt
  obtain ⟨t₁, run₁, l₁⟩ := (Loaded.start hs).loadsFrom effect rfl hc
  have address : t₁.ea lower base = s.ea lower base :=
    l₁.ea_eq hs (by simp [apart]) (Regs.write_x_other _ _ apart.symm) _
  obtain ⟨t₂, run₂, l₂⟩ := l₁.loadsFrom (i := .lbu regAt lower base) rfl rfl (by rwa [address])
  obtain ⟨t₃, run₃, l₃⟩ := l₂.write (i := .sll rd rd 8#5) rfl
  obtain ⟨t₄, run₄, l₄⟩ := l₃.write (i := .or rd rd regAt) rfl
  refine l₄.completes hp hw he rfl
    ((run₁ _ _).trans ((run₂ _ _).trans ((run₃ _ _).trans ((run₄ _ _).trans (runWords_nil 0 t₄))))) nofun
    (List.forall_mem_singleton.mpr fun _ => notAt) ?_ ?_ ⟨rfl, rfl⟩
  · refine List.forall_mem_singleton.mpr fun nonzero => ?_
    have loaded : t₂.x rd = x := by
      rw [l₂.x_eq (by simp [notAt.symm]), if_neg nonzero, Regs.write_x_other _ _ notAt, Regs.write_x_same _ _ nonzero]
    have shifted : t₃.x rd = x <<< 8 := by
      rw [l₃.x_eq nofun, if_neg nonzero, Regs.write_x_same _ _ nonzero, loaded]
      rfl
    have other : t₃.x regAt = (s.byte (s.ea lower base)).setWidth 32 := by
      rw [l₃.x_eq nofun, if_neg (by decide), Regs.write_x_other _ _ notAt.symm, Regs.write_x_at, address,
        l₁.memory.1]
    rw [Regs.write_x_same _ _ nonzero, shifted, other, value]
  · intro r unwritten notAt'
    have other : r ≠ rd := (unwritten _ (List.mem_singleton_self _)).symm
    rw [Regs.write_x_other _ _ other, Regs.write_x_other _ _ other, Regs.write_x_other _ _ (notAt' rfl),
      Regs.write_x_other _ _ other]
    rfl

/-- `ulh` and `ulhu` differ in the first word, which extends the upper byte. -/
theorem ulh_loads {s : State} (hs : s.Settled) {rd base : RegIdx} {k upper lower : Half}
    (hw : wellFormed (.pUlh rd k base) = true)
    (words : ∀ first, layout s.params.branchDelaySlot (unalignedHalf s.params.bigEndian first rd k base) =
      [first rd upper base, .lbu regAt lower base, .sll rd rd 8#5, .or rd rd regAt])
    (half : s.half (s.ea k base) = s.byte (s.ea upper base) ++ s.byte (s.ea lower base))
    (hc : s.CanAccess (s.ea upper base) [s.ea upper base]) (hc' : s.CanAccess (s.ea lower base) [s.ea lower base]) :
    PseudoLoads (.pUlh rd k base) s [(rd, BitVec.ofInt 32 (s.half (s.ea k base)).toInt)] true none ∧
      PseudoLoads (.pUlhu rd k base) s [(rd, BitVec.ofNat 32 (s.half (s.ea k base)).toNat)] true none := by
  rw [half]
  exact ⟨unalignedHalf_loads hs rfl hw rfl (words .lb) rfl (signExtend_half _ _) hc hc',
    unalignedHalf_loads hs rfl hw rfl (words .lbu) rfl
      ((setWidth_half _ _).trans (BitVec.ofNat_toNat 32 _).symm) hc hc'⟩

/-- Settles O36: each pseudoinstruction is followed word by word, `ulh`, `ulhu` and `ulw` for each byte order. -/
theorem loadPseudoinstructions : Obligations.LoadPseudoinstructions := by
  intro s rd base fs k hs a
  refine ⟨fun hw ha hc hc' => ld_loads hs hw ha hc hc', fun hw hc hc' => ?_, fun hw hc hc' => ?_, mfc1D_loads hs⟩
  · have fits := hw
    rw [wellFormed, Bool.and_eq_true] at fits
    have next : s.ea (k + 1#16) base = a + 1#32 := s.ea_add base fits.2
    cases order : s.params.bigEndian with
    | true =>
      exact ulh_loads hs hw (fun _ => by rw [order]; rfl) (by rw [State.half, order, next]; rfl) hc (next ▸ hc')
    | false =>
      exact ulh_loads hs hw (fun _ => by rw [order]; rfl) (by rw [State.half, order, next]; rfl) (next ▸ hc') hc
  · have fits := hw
    rw [wellFormed, Bool.and_eq_true] at fits
    have last : s.ea (k + 3#16) base = a + 3#32 := s.ea_add base fits.2
    cases order : s.params.bigEndian with
    | true =>
      have merge old := s.merged_bigEndian order a old
      exact ulw_loads hs hw (by rw [order]; rfl) (by rwa [order, last]) hc (last ▸ hc')
    | false =>
      have merge old := s.merged_littleEndian order a old
      exact ulw_loads hs hw (by rw [order]; rfl) (by rwa [order, last]) (last ▸ hc') hc

end Sys2Proof.Machine
end

section
/-! PROOFS. The bare stores: which list of bytes a store writes and which byte it leaves at an address are matched once
for each width and part of a word, and each store is a `storeAt` whose checks pass (R310, R311, R313 to R317). -/

namespace Sys2Proof.Machine

/-! The bytes that a store writes, as a function of the address. -/

/-- The bytes of the list are those that `stored` gives, each at its address; an address may come more than once. -/
def StoredAs (bytes : List (Word × Byte)) (stored : Word → Option Byte) : Prop :=
  ∀ p b, stored p = some b ↔ (p, b) ∈ bytes

/-- After a list of writes an address holds its byte, where every write to it is of that byte. -/
theorem Memory.byteAt_putAll_of_unique (bytes : List (Word × Byte)) (m : List Host.Cell) {a : Word} {b : Byte}
    (h : (a, b) ∈ bytes) (unique : ∀ c, (a, c) ∈ bytes → c = b) :
    Memory.byteAt (Memory.putAll m bytes) a.toNat = b := by
  induction bytes generalizing m with
  | nil => exact absurd h List.not_mem_nil
  | cons q rest ih =>
    obtain ⟨k, c⟩ := q
    rw [Memory.putAll_cons]
    by_cases later : (a, b) ∈ rest
    · exact ih _ later fun d hd => unique d (List.mem_cons_of_mem _ hd)
    · have first : (a, b) = (k, c) := (List.mem_cons.mp h).resolve_right later
      obtain ⟨rfl, rfl⟩ := Prod.mk.inj first
      rw [Memory.byteAt_putAll_other rest, Memory.byteAt_put, if_pos rfl]
      rintro ⟨_, d⟩ hd rfl
      exact later (unique d (List.mem_cons_of_mem _ hd) ▸ hd)

namespace StoredAs

variable {bytes : List (Word × Byte)} {stored : Word → Option Byte}

theorem isSome_iff (h : StoredAs bytes stored) (p : Word) : (stored p).isSome = true ↔ p ∈ bytes.map Prod.fst := by
  simp [Option.isSome_iff_exists, h p]

theorem byte_storeAll (h : StoredAs bytes stored) (s : State) (p : Word) :
    (s.storeAll bytes).byte p = (stored p).getD (s.byte p) := by
  cases e : stored p with
  | some b =>
    refine Memory.byteAt_putAll_of_unique bytes s.mem ((h p b).mp e) fun c hc => ?_
    exact Option.some.inj (((h p c).mpr hc).symm.trans e)
  | none =>
    refine Memory.byteAt_putAll_other bytes s.mem p ?_
    rintro ⟨_, b⟩ hb rfl
    exact Option.some_ne_none b (((h _ b).mpr hb).symm.trans e)

/-- A store whose checks pass writes its bytes and nothing else (R310). -/
theorem storesBytes (h : StoredAs bytes stored) (s : State) {a : Word} {aligned : Bool} {span : List Word}
    (ha : aligned = true) (hc : s.CanAccess a span) :
    StoresBytes (s.storeAt a aligned span bytes).outcome s stored :=
  s.storeAt_passes a aligned span bytes stored ha hc (h.byte_storeAll s) h.isSome_iff

end StoredAs

/-! Bytes, halfwords and words. -/

theorem storedAs_byte (a : Word) (b : Byte) : StoredAs [(a, b)] fun p => if p = a then some b else none := by
  intro p c
  simp [eq_comm]

theorem storedAs_halfBytes (big : Bool) (a : Word) (v : Half) : StoredAs (halfBytes big a v) (storedHalf big a v) := by
  have apart : a + 1#32 ≠ a := by bv_omega
  intro p b
  unfold storedHalf halfBytes
  by_cases first : p = a
  · cases big <;> simp [first, apart.symm, eq_comm (b := b)]
  · by_cases second : p = a + 1#32 <;> cases big <;> simp [first, second, apart, eq_comm (b := b)]

theorem storedAs_wordBytes (big : Bool) (a v : Word) : StoredAs (wordBytes big a v) (storedWord big a v) := by
  refine fun p b => ⟨mem_wordBytes_of_storedWord big a v p b, fun hb => ?_⟩
  have nodup : ((wordBytes big a v).map Prod.fst).Nodup := wordBytes_addresses big a v ▸ wordSpan_nodup a
  have named : p ∈ wordSpan a := wordBytes_addresses big a v ▸ List.mem_map_of_mem hb
  obtain ⟨c, hc⟩ := Option.isSome_iff_exists.mp ((storedWord_isSome big a v p).mpr named)
  have same := List.inj_on_of_nodup_map nodup (mem_wordBytes_of_storedWord big a v p c hc) hb rfl
  exact (Prod.mk.inj same).2 ▸ hc

/-- Settles O38: each store is a `storeAt` whose checks pass, of the bytes that the statement gives. -/
theorem alignedStores : Obligations.AlignedStores := by
  intro s rt rs imm a big
  refine ⟨fun hc => ?sb, fun ha hc => ?sh, fun ha hc => ⟨?sw, ?swc1⟩⟩
  case sb => exact (storedAs_byte a _).storesBytes s rfl hc
  case sh => exact (storedAs_halfBytes big a _).storesBytes s ((aligned2_iff a).mpr ha) hc
  case sw => exact s.storeWord_passes a (s.x rt) ha hc
  case swc1 => exact s.storeWord_passes a (s.f rt) ha hc

/-! Parts of words. -/

theorem mem_partialBytes (address : Nat → Option Word) (v p : Word) (b : Byte) :
    (p, b) ∈ partialBytes address v ↔ ∃ k ≤ 3, address k = some p ∧ v.extractLsb' (8 * k) 8 = b := by
  have lanes k : k ∈ [3, 2, 1, 0] ↔ k ≤ 3 := by
    simp only [List.mem_cons, List.not_mem_nil, or_false]
    omega
  simp [partialBytes, List.mem_filterMap, lanes]

/-- Where lane `k` of the register goes to the one address whose distance `dist` is that of the lane, the byte stored at
an address is that of its lane. -/
theorem storedAs_partialBytes {address : Nat → Option Word} {dist : Word → Nat} {d : Nat} (lane : Nat → Nat)
    (low : ∀ i ≤ d, lane i ≤ 3) (h : ∀ k ≤ 3, ∀ p, address k = some p ↔ dist p ≤ d ∧ lane (dist p) = k) (v : Word) :
    StoredAs (partialBytes address v) fun p =>
      if dist p ≤ d then some (v.extractLsb' (8 * lane (dist p)) 8) else none := by
  intro p b
  rw [mem_partialBytes, Option.ite_none_right_eq_some, Option.some_inj]
  constructor
  · rintro ⟨near, rfl⟩
    exact ⟨lane (dist p), low _ near, (h _ (low _ near) p).mpr ⟨near, rfl⟩, rfl⟩
  · rintro ⟨k, hk, hp, rfl⟩
    obtain ⟨near, rfl⟩ := (h k hk p).mp hp
    exact ⟨near, rfl⟩

theorem add_ofNat_eq_iff (a p : Word) {i : Nat} (hi : i ≤ 3) : a + BitVec.ofNat 32 i = p ↔ (p - a).toNat = i := by
  rw [← BitVec.toNat_inj, BitVec.toNat_add, BitVec.toNat_sub, BitVec.toNat_ofNat]
  omega

theorem sub_ofNat_eq_iff (a p : Word) {i : Nat} (hi : i ≤ 3) : a - BitVec.ofNat 32 i = p ↔ (a - p).toNat = i := by
  rw [← add_ofNat_eq_iff p a hi, sub_eq_iff_eq_add, eq_comm]

/-- `swl` stores upwards from `a` where memory is big-endian, downwards where it is not (R316). -/
theorem storedAs_left (big : Bool) (a v : Word) : StoredAs (partialBytes (leftAddress big a) v) fun p =>
    if big = true then
      if (p - a).toNat ≤ 3 - a.toNat % 4 then some (v.extractLsb' (8 * (3 - (p - a).toNat)) 8) else none
    else
      if (a - p).toNat ≤ a.toNat % 4 then some (v.extractLsb' (8 * (3 - (a - p).toNat)) 8) else none := by
  cases big with
  | true =>
    refine storedAs_partialBytes (3 - ·) (fun i _ => Nat.sub_le 3 i) (fun k hk p => ?_) v
    rw [leftAddress_bigEndian, Option.ite_none_right_eq_some, Option.some_inj, add_ofNat_eq_iff a p (Nat.sub_le 3 k)]
    omega
  | false =>
    refine storedAs_partialBytes (3 - ·) (fun i _ => Nat.sub_le 3 i) (fun k hk p => ?_) v
    rw [leftAddress_littleEndian, Option.ite_none_right_eq_some, Option.some_inj,
      sub_ofNat_eq_iff a p (Nat.sub_le 3 k)]
    omega

/-- `swr` stores downwards from `a` where memory is big-endian, upwards where it is not (R317). -/
theorem storedAs_right (big : Bool) (a v : Word) : StoredAs (partialBytes (rightAddress big a) v) fun p =>
    if big = true then
      if (a - p).toNat ≤ a.toNat % 4 then some (v.extractLsb' (8 * (a - p).toNat) 8) else none
    else
      if (p - a).toNat ≤ 3 - a.toNat % 4 then some (v.extractLsb' (8 * (p - a).toNat) 8) else none := by
  cases big with
  | true =>
    refine storedAs_partialBytes (·) (fun i hi => by omega) (fun k hk p => ?_) v
    rw [rightAddress_bigEndian, Option.ite_none_right_eq_some, Option.some_inj, sub_ofNat_eq_iff a p hk]
    omega
  | false =>
    refine storedAs_partialBytes (·) (fun i hi => by omega) (fun k hk p => ?_) v
    rw [rightAddress_littleEndian, Option.ite_none_right_eq_some, Option.some_inj, add_ofNat_eq_iff a p hk]
    omega

/-- Settles O39: the checks of the aligned word pass, and the bytes are those paired with an address. -/
theorem unalignedStoresMirrorLoads : Obligations.UnalignedStoresMirrorLoads := by
  intro s rt rs imm a b v hc
  rw [← alignedWord_eq] at hc
  exact ⟨(storedAs_left s.params.bigEndian a v).storesBytes s rfl hc,
    (storedAs_right s.params.bigEndian a v).storesBytes s rfl hc⟩

end Sys2Proof.Machine
end

section
/-! PROOFS. The pseudoinstructions that store: between two of their words the registers are those computed so far and
memory holds the bytes stored so far, and each word adds to one of the two (R121, R312, R318, R319, R379, R380). -/

namespace Sys2Proof.Machine

/-! One list of bytes after another. -/

theorem Memory.putAll_append (m : List Host.Cell) (l l' : List (Word × Byte)) :
    Memory.putAll m (l ++ l') = Memory.putAll (Memory.putAll m l) l' := by
  induction l generalizing m with
  | nil => rfl
  | cons q l ih => exact ih _

theorem Memory.insertAll_append (m : List Nat) (l l' : List (Word × Byte)) :
    Memory.insertAll m (l ++ l') = Memory.insertAll (Memory.insertAll m l) l' := by
  induction l generalizing m with
  | nil => rfl
  | cons q l ih => exact ih _

theorem State.storeAll_nil (s : State) : s.storeAll [] = s := by
  simp [State.storeAll, Memory.insertAll]

theorem State.storeAll_append (s : State) (l l' : List (Word × Byte)) :
    s.storeAll (l ++ l') = (s.storeAll l).storeAll l' := by
  cases sees : s.params.fetchSeesStores <;>
    simp [State.storeAll, Memory.putAll_append, Memory.insertAll_append, sees]

/-- What a memory reads as after a list of writes depends on what it read as before them. -/
theorem Memory.byteAt_putAll_congr {m m' : List Host.Cell}
    (h : ∀ a : Word, Memory.byteAt m' a.toNat = Memory.byteAt m a.toNat) (l : List (Word × Byte)) (a : Word) :
    Memory.byteAt (Memory.putAll m' l) a.toNat = Memory.byteAt (Memory.putAll m l) a.toNat := by
  induction l generalizing m m' with
  | nil => exact h a
  | cons q l ih =>
    refine ih fun p => ?_
    rw [Memory.byteAt_put, Memory.byteAt_put, h p]

theorem SameMemory.storeAll {s t : State} (memory : SameMemory s t) (system : SameSystem s t) (l : List (Word × Byte)) :
    SameMemory (s.storeAll l) (t.storeAll l) := by
  refine ⟨Memory.byteAt_putAll_congr memory.1 l, ?_⟩
  rw [State.storeAll_storedBytes, State.storeAll_storedBytes, memory.2, system.1]

namespace StoredAs

variable {bytes bytes' : List (Word × Byte)} {stored stored' : Word → Option Byte}

/-- Only which bytes are written where counts, not in which order. -/
theorem of_mem_iff (h : StoredAs bytes stored) (same : ∀ p b, (p, b) ∈ bytes' ↔ (p, b) ∈ bytes) :
    StoredAs bytes' stored :=
  fun p b => (h p b).trans (same p b).symm

/-- Bytes at different addresses. -/
theorem append (h : StoredAs bytes stored) (h' : StoredAs bytes' stored')
    (apart : ∀ p ∈ bytes.map Prod.fst, p ∉ bytes'.map Prod.fst) :
    StoredAs (bytes ++ bytes') fun p => (stored p).or (stored' p) := by
  intro p b
  rw [Option.or_eq_some_iff, List.mem_append, h p b, h' p b]
  refine or_congr Iff.rfl (and_iff_right_of_imp fun hb => ?_)
  rw [← Option.not_isSome_iff_eq_none, h.isSome_iff]
  exact fun first => apart p first (List.mem_map_of_mem hb)

end StoredAs

/-! Between the words. -/

theorem State.Settled.f_eq {s : State} (h : s.Settled) (r : RegIdx) : s.f r = readSlot s.fpr r := by
  refine s.f_of_settled r ?_
  cases delays : s.params.loadDelaySlot with
  | false => simp [State.fprDelayed, delays]
  | true => simp [State.fprDelayed, h.2 delays]

namespace Computed

variable {s t : State} {n : Nat} {m : Regs}

theorem f_eq (c : Computed s t n m) (hs : s.Settled) (r : RegIdx) : t.f r = s.f r := by
  rw [c.settled.f_eq, hs.f_eq, c.fp.1]

theorem ea_eq (c : Computed s t n m) (imm : Half) (base : RegIdx) : t.ea imm base = m.x base + signImm imm := by
  rw [State.ea, c.x_eq]

/-- The same bytes stored before the words and after them. -/
theorem storeAll (c : Computed s t n m) (l : List (Word × Byte)) : Computed (s.storeAll l) (t.storeAll l) n m :=
  ⟨c.regs, c.zero, c.fp, c.memory.storeAll c.system l, c.system, c.pc, c.settled, fun none => by rw [c.first none],
    c.retired⟩

/-- A word that leaves the registers alone has completed. -/
theorem retire (c : Computed s t n m) : Computed s t.retire (n + 1) m := by
  have goesOn := t.goesOn_retireWith t none rfl rfl rfl
  refine c.advance Nat.one_pos ?_ rfl (.refl t) (.refl t) (.refl t) (goesOn.pc_of_settled c.settled) rfl rfl
  rw [← c.regs]
  exact congrArg (Regs.mk · t.hi t.lo)
    (c.settled.x_congr (t := t.retire) ⟨fun _ => rfl, fun _ => rfl⟩ rfl)

end Computed

/-- What a store checks and writes: whether an address is aligned for it, the bytes of memory it touches, and what it
writes of a value in either byte order (R310). -/
structure StoreKind where
  aligned : Word → Bool
  span : Word → List Word
  bytes : Bool → Word → Word → List (Word × Byte)

namespace StoreKind

/-- The low byte at any address: `sb` (R311). -/
def byte : StoreKind := ⟨fun _ => true, fun a => [a], fun _ a v => [(a, v.extractLsb' 0 8)]⟩

/-- The word at an aligned address: `sw` and `swc1` (R314, R315). -/
def word : StoreKind := ⟨aligned4, wordSpan, wordBytes⟩

/-- The upper lanes, into the aligned word around the address: `swl` (R316). -/
def left : StoreKind :=
  ⟨fun _ => true, fun a => wordSpan (alignedWord a), fun big a v => partialBytes (leftAddress big a) v⟩

/-- The lower lanes, into the aligned word around the address: `swr` (R317). -/
def right : StoreKind :=
  ⟨fun _ => true, fun a => wordSpan (alignedWord a), fun big a v => partialBytes (rightAddress big a) v⟩

/-- The word `i` is a store of this kind, of `value` at `imm(base)`. -/
def Of (kind : StoreKind) (i : Instr) (value : State → Word) (imm : Half) (base : RegIdx) : Prop :=
  ∀ t, wordEffect i t = t.storeAt (t.ea imm base) (kind.aligned (t.ea imm base)) (kind.span (t.ea imm base))
    (kind.bytes t.params.bigEndian (t.ea imm base) (value t))

end StoreKind

/-- The words run to their end from every state that `n` words before them have made of `s` by storing `before` and
leaving the registers as `m`; then `after` is stored in all, and the registers are `m'`. -/
def Stores (s : State) (n : Nat) (before : List (Word × Byte)) (m : Regs) (words : List Instr)
    (after : List (Word × Byte)) (m' : Regs) : Prop :=
  ∀ t, Computed (s.storeAll before) t n m → ∃ u, runWords words.length words t = .done u ∧
    Computed (s.storeAll after) u (n + words.length) m'

namespace Stores

variable {s : State} {n : Nat} {before after : List (Word × Byte)} {m m' : Regs} {i : Instr} {rest : List Instr}

theorem nil : Stores s n before m [] before m := fun t c => ⟨t, runWords_nil 0 t, c⟩

/-- A word that completes and goes on to the next. -/
theorem cons {next : List (Word × Byte)} {m₁ : Regs}
    (h : ∀ t, Computed (s.storeAll before) t n m →
      ∃ u, wordEffect i t = .done u ∧ Computed (s.storeAll next) u (n + 1) m₁)
    (tail : Stores s (n + 1) next m₁ rest after m') : Stores s n before m (i :: rest) after m' := by
  intro t c
  obtain ⟨u, effect, c₁⟩ := h t c
  have pc : u.pc = t.pc + 4#32 := by
    rw [c₁.pc, c.pc, BitVec.add_assoc, Nat.mul_succ, BitVec.ofNat_add]
    rfl
  obtain ⟨v, run, c'⟩ := tail u c₁
  refine ⟨v, (runWords_next rest.length i rest t u effect pc).trans run, ?_⟩
  rwa [List.length_cons, Nat.add_comm rest.length, ← Nat.add_assoc]

/-- A word that writes a general register. -/
theorem write {rd : RegIdx} (f : Regs → Word) (hi : ∀ t, wordEffect i t = t.write rd (f t.regs))
    (tail : Stores s (n + 1) before (m.write rd (f m)) rest after m') : Stores s n before m (i :: rest) after m' :=
  tail.cons fun t c => ⟨_, (hi t).trans (by rw [c.regs]; rfl), c.write rd (f m)⟩

/-- A word that stores, with an access whose checks pass. -/
theorem store {kind : StoreKind} {value : State → Word} {imm : Half} {base : RegIdx} {a v : Word}
    (hi : kind.Of i value imm base) (hv : ∀ t, Computed (s.storeAll before) t n m → value t = v)
    (ha : m.x base + signImm imm = a) (aligned : kind.aligned a = true) (hc : s.CanAccess a (kind.span a))
    (tail : Stores s (n + 1) (before ++ kind.bytes s.params.bigEndian a v) m rest after m') :
    Stores s n before m (i :: rest) after m' := by
  refine tail.cons fun t c => ⟨(t.storeAll (kind.bytes s.params.bigEndian a v)).retire, ?_, ?_⟩
  · obtain ⟨allowed, mapped⟩ := (t.canAccess_iff a _).mp ((State.canAccess_congr c.system a _).mpr hc)
    rw [hi t, c.ea_eq, ha, hv t c, c.system.1]
    simp [State.storeAt, State.dataFault, aligned, allowed, mapped]
  · rw [State.storeAll_append]
    exact (c.storeAll _).retire

/-- After the last word the pseudoinstruction has completed (R121, R122); where `usesAt`, nothing is said of `$at`. -/
theorem pseudoStores {words : List Instr} {stored : Word → Option Byte} {atAfter : Word → Prop} {usesAt : Bool}
    (run : Stores s 0 [] s.regs words after m) (hs : s.Settled) (hp : i.isPseudo = true) (hw : wellFormed i = true)
    (he : expand s.params.bigEndian s.params.branchDelaySlot i = words) (bytes : StoredAs after stored)
    (hAt : usesAt = false → ∀ v, assemblerTempAfter i v = none)
    (others : ∀ r, r ≠ regAt → m.x r = s.x r) (hi : m.hi = s.hi) (lo : m.lo = s.lo)
    (temp : ∀ v, (usesAt = false → v = m.x regAt) → atAfter v) : PseudoStores i s stored atAfter := by
  obtain ⟨t, done, c⟩ := run s (s.storeAll_nil.symm ▸ .start hs)
  obtain ⟨gpr, hiLo, fp, memory, system, pc, target, load⟩ := t.afterPseudo_spec i usesAt hAt
  have count : 0 + words.length = (expand s.params.bigEndian s.params.branchDelaySlot i).length := by
    rw [he, Nat.zero_add]
  have words_run : 0 < 0 + words.length := count ▸ List.length_pos_of_ne_nil (expand_ne_nil _ _ i)
  refine ⟨_, exec_of_runWords hp hw he done, fun p => ?_, ?_, fun r hr => ?_, temp _ fun off => ?_, ?_,
    c.fp.trans fp, c.system.trans system, ?_, target.trans (c.retired words_run).1,
    load.trans (c.retired words_run).2⟩
  · exact (memory.1 p).trans ((c.memory.1 p).trans (bytes.byte_storeAll s p))
  · exact (s.remembers_storeAll after _ bytes.isSome_iff).trans_same (memory.2.trans c.memory.2)
  · exact (gpr r fun _ => hr).trans (c.readSlot_same hs fun _ => others r hr)
  · rw [gpr regAt (by simp [off]), c.readSlot_eq (by decide)]
  · exact ⟨hiLo.1.trans (c.hi_eq.trans hi), hiLo.2.trans (c.lo_eq.trans lo)⟩
  · rw [pc, c.pc, State.afterExpansion, count]
    rfl

end Stores

theorem State.Settled.x_at {s : State} (h : s.Settled) : s.x regAt = readSlot s.gpr regAt :=
  s.x_of_settled regAt (h.gprDelayed regAt)

/-! `sd` and `s.d`. -/

theorem wordSpan_apart (a : Word) : ∀ p ∈ wordSpan a, p ∉ wordSpan (a + 4#32) := by
  intro p hp
  simp only [wordSpan, List.mem_cons, List.not_mem_nil, or_false] at hp ⊢
  bv_omega

theorem storedAs_twoWords (big : Bool) (a v w : Word) : StoredAs ([] ++ wordBytes big a v ++ wordBytes big (a + 4#32) w)
    fun p => (storedWord big a v p).or (storedWord big (a + 4#32) w p) :=
  (storedAs_wordBytes big a v).append (storedAs_wordBytes big (a + 4#32) w) (by
    rw [wordBytes_addresses, wordBytes_addresses]
    exact wordSpan_apart a)

/-- Two words that store, at an address and at the address 4 above it (R312, R379). -/
theorem pseudoStores_twoWords {s : State} {i w₁ w₂ : Instr} {value value' : State → Word} {k : Half} {base : RegIdx}
    {v v' : Word} (hs : s.Settled) (hp : i.isPseudo = true) (hw : wellFormed i = true)
    (he : expand s.params.bigEndian s.params.branchDelaySlot i = [w₁, w₂]) (fits : offsetFits k 4 = true)
    (hAt : ∀ v, assemblerTempAfter i v = none) (first : StoreKind.word.Of w₁ value k base)
    (second : StoreKind.word.Of w₂ value' (k + 4#16) base)
    (hv : ∀ t l n, Computed (s.storeAll l) t n s.regs → value t = v ∧ value' t = v')
    (ha : (s.ea k base).toNat % 4 = 0) (hc : s.CanAccess (s.ea k base) (wordSpan (s.ea k base)))
    (hc' : s.CanAccess (s.ea k base + 4#32) (wordSpan (s.ea k base + 4#32))) :
    PseudoStores i s (fun p => (storedWord s.params.bigEndian (s.ea k base) v p).or
      (storedWord s.params.bigEndian (s.ea k base + 4#32) v' p)) (· = readSlot s.gpr regAt) := by
  have ha' : (s.ea k base + 4#32).toNat % 4 = 0 := by
    rw [BitVec.toNat_add, BitVec.toNat_ofNat]
    omega
  have run : Stores s 0 [] s.regs [w₁, w₂] _ s.regs :=
    .store first (fun t c => (hv t _ _ c).1) rfl ((aligned4_iff _).mpr ha) hc
      (.store second (fun t c => (hv t _ _ c).2) (ea_add_four fits rfl) ((aligned4_iff _).mpr ha') hc' .nil)
  exact run.pseudoStores hs hp hw he (storedAs_twoWords _ _ v v') (fun _ => hAt) (fun _ _ => rfl) rfl rfl
    fun _ same => (same rfl).trans hs.x_at

theorem sd_stores {s : State} (hs : s.Settled) {rs base : RegIdx} {k : Half} (hw : wellFormed (.pSd rs k base) = true)
    (ha : (s.ea k base).toNat % 4 = 0) (hc : s.CanAccess (s.ea k base) (wordSpan (s.ea k base)))
    (hc' : s.CanAccess (s.ea k base + 4#32) (wordSpan (s.ea k base + 4#32))) :
    PseudoStores (.pSd rs k base) s (fun p => (storedWord s.params.bigEndian (s.ea k base) (s.x rs) p).or
      (storedWord s.params.bigEndian (s.ea k base + 4#32) (s.x (rs + 1#5)) p)) (· = readSlot s.gpr regAt) := by
  have restrictions := hw
  simp only [wellFormed, Bool.and_eq_true] at restrictions
  exact pseudoStores_twoWords hs rfl hw rfl restrictions.2 (fun _ => rfl) (value := (·.x rs))
    (value' := (·.x (rs + 1#5))) (fun _ => rfl) (fun _ => rfl)
    (fun t l n c => ⟨congrFun c.x_eq rs, congrFun c.x_eq (rs + 1#5)⟩) ha hc hc'

/-- Which register `s.d` stores first depends on the byte order (R379). -/
theorem storeD_stores {s : State} (hs : s.Settled) {fs base first last : RegIdx} {k : Half}
    (hw : wellFormed (.pStoreD fs k base) = true)
    (he : expand s.params.bigEndian s.params.branchDelaySlot (.pStoreD fs k base) =
      [.swc1 first k base, .swc1 last (k + 4#16) base])
    (ha : (s.ea k base).toNat % 4 = 0) (hc : s.CanAccess (s.ea k base) (wordSpan (s.ea k base)))
    (hc' : s.CanAccess (s.ea k base + 4#32) (wordSpan (s.ea k base + 4#32))) :
    PseudoStores (.pStoreD fs k base) s (fun p => (storedWord s.params.bigEndian (s.ea k base) (s.f first) p).or
      (storedWord s.params.bigEndian (s.ea k base + 4#32) (s.f last) p)) (· = readSlot s.gpr regAt) := by
  have restrictions := hw
  simp only [wellFormed, Bool.and_eq_true] at restrictions
  exact pseudoStores_twoWords hs rfl hw he restrictions.2 (fun _ => rfl) (value := (·.f first))
    (value' := (·.f last)) (fun _ => rfl) (fun _ => rfl) (fun t l n c => ⟨c.f_eq hs first, c.f_eq hs last⟩) ha hc hc'

/-! `s.s`. -/

theorem storeS_stores {s : State} (hs : s.Settled) {fs : RegIdx} {addr : Address}
    (hw : wellFormed (.pStoreS fs addr) = true) (ha : (s.addressValue addr).toNat % 4 = 0)
    (hc : s.CanAccess (s.addressValue addr) (wordSpan (s.addressValue addr))) :
    PseudoStores (.pStoreS fs addr) s (storedWord s.params.bigEndian (s.addressValue addr) (s.f fs))
      (fun v => Address.usesAt addr = false → v = readSlot s.gpr regAt) := by
  have word (imm : Half) (base : RegIdx) : StoreKind.word.Of (.swc1 fs imm base) (·.f fs) imm base := fun _ => rfl
  have aligned := (aligned4_iff _).mpr ha
  have bytes := storedAs_wordBytes s.params.bigEndian (s.addressValue addr) (s.f fs)
  cases addr with
  | offset k base =>
    have run : Stores s 0 [] s.regs [.swc1 fs k base] _ _ :=
      .store (word k base) (fun t c => c.f_eq hs fs) rfl aligned hc .nil
    exact run.pseudoStores (usesAt := false) hs rfl hw rfl bytes (fun _ _ => rfl) (fun _ _ => rfl) rfl rfl
      fun _ same _ => (same rfl).trans hs.x_at
  | absolute a =>
    have address : (s.regs.write regAt (upperImm (addressHigh a))).x regAt + signImm (a.extractLsb' 0 16) = a := by
      rw [Regs.write_x_at, upperImm_add_signImm]
    have run : Stores s 0 [] s.regs [.lui regAt (addressHigh a), .swc1 fs (a.extractLsb' 0 16) regAt] _ _ :=
      .write (fun _ => upperImm (addressHigh a)) (fun _ => rfl)
        (.store (word _ regAt) (fun t c => c.f_eq hs fs) address aligned hc .nil)
    exact run.pseudoStores (usesAt := true) hs rfl hw rfl bytes nofun (fun r hr => Regs.write_x_other _ _ hr) rfl rfl
      fun _ _ => nofun
  | indexed a base =>
    have apart : base ≠ regAt := by
      simp only [wellFormed, Address.notAt, Bool.and_eq_true] at hw
      exact ne_regAt hw.2
    have run : Stores s 0 [] s.regs
        [.lui regAt (addressHigh a), .addu regAt regAt base, .swc1 fs (a.extractLsb' 0 16) regAt] _ _ :=
      .write (fun _ => upperImm (addressHigh a)) (fun _ => rfl)
        (.write (fun m => m.x regAt + m.x base) (fun _ => rfl)
          (.store (word _ regAt) (fun t c => c.f_eq hs fs) (a := a + s.x base) (by
            rw [Regs.write_x_at, Regs.write_x_at, Regs.write_x_other _ _ apart, State.regs_x, add_right_comm,
              upperImm_add_signImm]) aligned hc .nil))
    refine run.pseudoStores (usesAt := true) hs rfl hw rfl bytes nofun (fun r hr => ?_) rfl rfl fun _ _ => nofun
    rw [Regs.write_x_other _ _ hr, Regs.write_x_other _ _ hr]
    rfl

/-! `ush`. -/

theorem lowByte_of_low (x : Word) : (x.extractLsb' 0 16).extractLsb' 0 8 = x.extractLsb' 0 8 := by
  ext i hi
  simp

theorem lowByte_of_shifted (x : Word) : (x >>> 8).extractLsb' 0 8 = (x.extractLsb' 0 16).extractLsb' 8 8 := by
  ext i hi
  simp

/-- The low byte, the shift, and the byte above it (R318; notes/assumptions 19). -/
theorem ush_stores {s : State} (hs : s.Settled) {rs base : RegIdx} {k lower upper : Half}
    (hw : wellFormed (.pUsh rs k base) = true)
    (he : expand s.params.bigEndian s.params.branchDelaySlot (.pUsh rs k base) =
      [.sb rs lower base, .srl regAt rs 8#5, .sb regAt upper base])
    (bytes : ∀ p b, (p, b) ∈ [(s.ea lower base, (s.x rs).extractLsb' 0 8),
      (s.ea upper base, (s.x rs >>> 8).extractLsb' 0 8)] ↔
        (p, b) ∈ halfBytes s.params.bigEndian (s.ea k base) ((s.x rs).extractLsb' 0 16))
    (hc : s.CanAccess (s.ea lower base) [s.ea lower base]) (hc' : s.CanAccess (s.ea upper base) [s.ea upper base]) :
    PseudoStores (.pUsh rs k base) s (storedHalf s.params.bigEndian (s.ea k base) ((s.x rs).extractLsb' 0 16))
      (· = BitVec.ofNat 32 ((s.x rs).toNat / 256)) := by
  have restrictions := hw
  simp only [wellFormed, Bool.and_eq_true] at restrictions
  obtain ⟨⟨-, baseNotAt⟩, -⟩ := restrictions
  have address : (s.regs.write regAt (s.x rs >>> 8)).x base + signImm upper = s.ea upper base := by
    rw [Regs.write_x_other _ _ (ne_regAt baseNotAt)]
    rfl
  have byte (r : RegIdx) (imm : Half) : StoreKind.byte.Of (.sb r imm base) (·.x r) imm base := fun _ => rfl
  have run : Stores s 0 [] s.regs [.sb rs lower base, .srl regAt rs 8#5, .sb regAt upper base] _ _ :=
    .store (byte rs lower) (fun t c => congrFun c.x_eq rs) rfl rfl hc
      (.write (fun m => m.x rs >>> 8) (fun _ => rfl)
        (.store (byte regAt upper) (fun t c => (congrFun c.x_eq regAt).trans (Regs.write_x_at _ _)) address rfl hc'
          .nil))
  refine run.pseudoStores (usesAt := false) hs rfl hw he ((storedAs_halfBytes _ _ _).of_mem_iff bytes) (fun _ _ => rfl)
    (fun r hr => Regs.write_x_other _ _ hr) rfl rfl fun _ same => (same rfl).trans ?_
  rw [Regs.write_x_at]
  apply BitVec.eq_of_toNat_eq
  rw [BitVec.toNat_ushiftRight, BitVec.toNat_ofNat, Nat.shiftRight_eq_div_pow]
  show (s.x rs).toNat / _ = _
  omega

/-! `usw`. -/

/-- Where lane `k` of the register lies in a word of memory at `a` (R65). -/
def laneAddress (big : Bool) (a : Word) (k : Nat) : Word :=
  if big = true then a + BitVec.ofNat 32 (3 - k) else a + BitVec.ofNat 32 k

theorem mem_wordBytes (big : Bool) (a v p : Word) (b : Byte) :
    (p, b) ∈ wordBytes big a v ↔ ∃ k ≤ 3, laneAddress big a k = p ∧ v.extractLsb' (8 * k) 8 = b := by
  have lanes (P : Nat → Prop) : (∃ k ≤ 3, P k) ↔ P 0 ∨ P 1 ∨ P 2 ∨ P 3 := by
    refine ⟨?_, by rintro (h | h | h | h) <;> exact ⟨_, by decide, h⟩⟩
    rintro ⟨k, hk, h⟩
    interval_cases k <;> simp [h]
  rw [lanes]
  have pair {q : Word} {c : Byte} : (p, b) = (q, c) ↔ q = p ∧ c = b := by rw [Prod.mk.injEq, eq_comm, eq_comm (a := b)]
  cases big with
  | true => simp [wordBytes, bytesOfWord, laneAddress, pair]; tauto
  | false => simp [wordBytes, bytesOfWord, laneAddress, pair]

/-- Two partial-word stores that between them take each lane to its address in the word, and no lane elsewhere, store
the word. -/
theorem storedAs_unaligned {big : Bool} {a : Word} {address address' : Nat → Option Word}
    (h : ∀ k ≤ 3, ∀ p, address k = some p ∨ address' k = some p ↔ laneAddress big a k = p) (v : Word) :
    StoredAs ([] ++ partialBytes address v ++ partialBytes address' v) (storedWord big a v) := by
  refine (storedAs_wordBytes big a v).of_mem_iff fun p b => ?_
  rw [List.nil_append, List.mem_append, mem_partialBytes, mem_partialBytes, mem_wordBytes, ← exists_or]
  refine exists_congr fun k => ?_
  rw [← and_or_left, ← or_and_right]
  exact and_congr_right fun hk => by rw [h k hk]

/-- Of the word at `a`, `swr` at its last byte stores the lanes that `swl` at its first does not (R319). -/
theorem unaligned_bigEndian (a : Word) : ∀ k ≤ 3, ∀ p,
    leftAddress true a k = some p ∨ rightAddress true (a + 3#32) k = some p ↔ laneAddress true a k = p := by
  intro k hk p
  have offset : (a + 3#32).toNat % 4 = (a.toNat + 3) % 4 := by
    rw [BitVec.toNat_add, BitVec.toNat_ofNat]
    omega
  have address : a + 3#32 - BitVec.ofNat 32 k = laneAddress true a k := by
    show _ = a + BitVec.ofNat 32 (3 - k)
    interval_cases k <;> bv_omega
  have lane : a + BitVec.ofNat 32 (3 - k) = laneAddress true a k := rfl
  rw [leftAddress_bigEndian, rightAddress_bigEndian, Option.ite_none_right_eq_some, Option.ite_none_right_eq_some,
    address, lane, Option.some_inj, ← or_and_right, and_iff_right]
  omega

/-- The other byte order, with the first byte and the last the other way round. -/
theorem unaligned_littleEndian (a : Word) : ∀ k ≤ 3, ∀ p,
    leftAddress false (a + 3#32) k = some p ∨ rightAddress false a k = some p ↔ laneAddress false a k = p := by
  intro k hk p
  have offset : (a + 3#32).toNat % 4 = (a.toNat + 3) % 4 := by
    rw [BitVec.toNat_add, BitVec.toNat_ofNat]
    omega
  have address : a + 3#32 - BitVec.ofNat 32 (3 - k) = laneAddress false a k := by
    show _ = a + BitVec.ofNat 32 k
    interval_cases k <;> bv_omega
  have lane : a + BitVec.ofNat 32 k = laneAddress false a k := rfl
  rw [leftAddress_littleEndian, rightAddress_littleEndian, Option.ite_none_right_eq_some, Option.ite_none_right_eq_some,
    address, lane, Option.some_inj, ← or_and_right, and_iff_right]
  omega

theorem usw_stores {s : State} (hs : s.Settled) {rs base : RegIdx} {k left right : Half}
    (hw : wellFormed (.pUsw rs k base) = true)
    (he : expand s.params.bigEndian s.params.branchDelaySlot (.pUsw rs k base) =
      [.swl rs left base, .swr rs right base])
    (bytes : StoredAs ([] ++ partialBytes (leftAddress s.params.bigEndian (s.ea left base)) (s.x rs) ++
      partialBytes (rightAddress s.params.bigEndian (s.ea right base)) (s.x rs))
        (storedWord s.params.bigEndian (s.ea k base) (s.x rs)))
    (hc : s.CanAccess (s.ea left base) (wordSpan (alignedWord (s.ea left base))))
    (hc' : s.CanAccess (s.ea right base) (wordSpan (alignedWord (s.ea right base)))) :
    PseudoStores (.pUsw rs k base) s (storedWord s.params.bigEndian (s.ea k base) (s.x rs))
      (· = readSlot s.gpr regAt) := by
  have value (t : State) {l : List (Word × Byte)} {n : Nat} (c : Computed (s.storeAll l) t n s.regs) :
      t.x rs = s.x rs := congrFun c.x_eq rs
  have run : Stores s 0 [] s.regs [.swl rs left base, .swr rs right base] _ s.regs :=
    .store (kind := .left) (fun _ => rfl) (fun t c => value t c) rfl rfl hc
      (.store (kind := .right) (fun _ => rfl) (fun t c => value t c) rfl rfl hc' .nil)
  exact run.pseudoStores (usesAt := false) hs rfl hw he bytes (fun _ _ => rfl) (fun _ _ => rfl) rfl rfl
    fun _ same => (same rfl).trans hs.x_at

/-- Settles O41: each pseudoinstruction is followed word by word, all but `sd` and `s.s` for each byte order. -/
theorem storePseudoinstructions : Obligations.StorePseudoinstructions := by
  intro s rs base fs k addr hs a b big
  refine ⟨fun hw ha hc hc' => sd_stores hs hw ha hc hc', fun hw hc hc' => ?ush, fun hw hc hc' => ?usw,
    fun hw ha hc hc' => ?storeD, fun hw ha hc => storeS_stores hs hw ha hc⟩
  case ush =>
    have fits := hw
    rw [wellFormed, Bool.and_eq_true] at fits
    have next : s.ea (k + 1#16) base = a + 1#32 := s.ea_add base fits.2
    cases order : s.params.bigEndian with
    | true =>
      exact ush_stores (lower := k + 1#16) (upper := k) hs hw (by rw [order]; rfl) (fun p b => by
        rw [order, next, lowByte_of_shifted, ← lowByte_of_low]
        exact (List.Perm.swap _ _ []).mem_iff) (next ▸ hc') hc
    | false =>
      exact ush_stores (lower := k) (upper := k + 1#16) hs hw (by rw [order]; rfl) (fun p b => by
        rw [order, next, lowByte_of_shifted, ← lowByte_of_low]
        rfl) hc (next ▸ hc')
  case usw =>
    have fits := hw
    rw [wellFormed, Bool.and_eq_true] at fits
    have last : s.ea (k + 3#16) base = a + 3#32 := s.ea_add base fits.2
    cases order : s.params.bigEndian with
    | true =>
      exact usw_stores (left := k) (right := k + 3#16) hs hw (by rw [order]; rfl)
        (by rw [order, last]; exact storedAs_unaligned (unaligned_bigEndian a) _) hc (last ▸ hc')
    | false =>
      exact usw_stores (left := k + 3#16) (right := k) hs hw (by rw [order]; rfl)
        (by rw [order, last]; exact storedAs_unaligned (unaligned_littleEndian a) _) (last ▸ hc') hc
  case storeD =>
    cases order : s.params.bigEndian with
    | true =>
      have stores := storeD_stores (first := fs + 1#5) (last := fs) hs hw (by rw [order]; rfl) ha hc hc'
      simpa only [big, order, if_true] using stores
    | false =>
      have stores := storeD_stores (first := fs) (last := fs + 1#5) hs hw (by rw [order]; rfl) ha hc hc'
      simpa only [big, order, Bool.false_eq_true, if_false] using stores

end Sys2Proof.Machine
end

section
/-! PROOFS. The bare moves from and to `hi` and `lo` (R331 to R334). -/

namespace Sys2Proof.Machine

/-- Settles O27: each word is its instruction's own; a move from `hi` or `lo` is the write of a general register, and a
move to one of them is a write of both that gives the other the value it held. -/
theorem hiLoMoves : Obligations.HiLoMoves := by
  intro s r
  refine ⟨decodeWord_of_encodeWord rfl, decodeWord_of_encodeWord rfl, decodeWord_of_encodeWord rfl,
    decodeWord_of_encodeWord rfl, ?mfhi, ?mflo, ?mthi, ?mtlo⟩
  case mfhi => exact s.write_spec r s.hi
  case mflo => exact s.write_spec r s.lo
  case mthi => exact s.setHiLo_spec (s.x r) s.lo _ ⟨rfl, rfl⟩
  case mtlo => exact s.setHiLo_spec s.hi (s.x r) _ ⟨rfl, rfl⟩

end Sys2Proof.Machine
end

section
/-! PROOFS. The results of the floating point arithmetic, conversions and moves in the registers (R350, R351, R353 to
R356, R363 to R370, R373 to R378, R381, R382). -/

namespace Sys2Proof.Machine

/-- A single result among even registers: one register and nothing else (R350). -/
theorem writesFp_single (s : State) (fd : RegIdx) (v : Word) {regs : List RegIdx} (even : regs.all evenReg = true) :
    WritesFp (evenOnly regs (.done (s.setF fd v).retire)).outcome s (fun t => FprWritten s t fd v) := by
  rw [evenOnly_even regs _ even]
  exact s.setF_spec fd v

/-- A double result among even registers: the pair and nothing else (R41, R350). -/
theorem writesFp_double (s : State) {fd : RegIdx} (v : DWord) (hd : evenReg fd = true) {regs : List RegIdx}
    (even : regs.all evenReg = true) :
    WritesFp (evenOnly regs (.done (s.setFd fd v).retire)).outcome s (fun t => FprPairWritten s t fd v) := by
  rw [evenOnly_even regs _ even]
  exact s.setFd_spec fd v hd

/-- Settles O51: each instruction is a write of its result, single or double, guarded by the two or three registers it
names. -/
theorem fpResultsWritten : Obligations.FpResultsWritten := by
  intro s fd fs ft hd hs ht
  have three : [fd, fs, ft].all evenReg = true := by simp [hd, hs, ht]
  have two : [fd, fs].all evenReg = true := by simp [hd, hs]
  have binaryS v := writesFp_single s fd v three
  have binaryD v := writesFp_double s v hd three
  have unaryS v := writesFp_single s fd v two
  have unaryD v := writesFp_double s v hd two
  exact ⟨binaryS _, binaryS _, binaryS _, binaryS _, binaryD _, binaryD _, binaryD _, binaryD _,
    unaryS _, unaryD _, unaryS _, unaryD _, unaryS _, unaryD _, unaryD _, unaryD _, unaryS _, unaryS _,
    unaryS _, unaryS _⟩

end Sys2Proof.Machine
end

section
/-! PROOFS. The suggested numerics on bit patterns (R351; notes/assumptions 26): a pattern is a sign and a magnitude,
and the number it stands for grows with the magnitude. So comparisons are those of the signed magnitudes, and an
integer that the fraction has room for is kept by the rounding. -/

namespace Sys2Proof.Machine

/-! Signed magnitudes. -/

/-- An integer by its sign and magnitude. -/
def signed (neg : Bool) (k : Nat) : Int := if neg = true then -(k : Int) else k

theorem signed_mul (neg : Bool) (k d : Nat) : signed neg (k * d) = signed neg k * d := by
  cases neg <;> simp [signed]

theorem signed_natAbs (i : Int) : signed (decide (i < 0)) i.natAbs = i := by
  simp only [signed, decide_eq_true_eq]
  split_ifs <;> omega

/-- What is strictly monotone on magnitudes is so on signed ones, where +0 is -0. -/
theorem signed_lt_signed_iff {f : Nat → Nat} (mono : StrictMono f) (zero : f 0 = 0) (neg neg' : Bool) (k k' : Nat) :
    signed neg (f k) < signed neg' (f k') ↔ signed neg k < signed neg' k' := by
  have less (a b : Nat) : f a < f b ↔ a < b := mono.lt_iff_lt
  have positive (a : Nat) : 0 < f a ↔ 0 < a := by rw [← less 0 a, zero]
  have := less k k'
  have := less k' k
  have := positive k
  have := positive k'
  cases neg <;> cases neg' <;> simp only [signed, if_true, Bool.false_eq_true, if_false] <;> omega

theorem scaled_mul_pow (neg : Bool) (m : Nat) (e : Int) {j l : Nat} (h : l ≤ j) :
    scaled neg m (e + j) (e + l) * (2 ^ l : Nat) = signed neg (m * 2 ^ j) := by
  have unscaled : scaled neg m (e + j) (e + l) = signed neg (m * 2 ^ (j - l)) := by
    simp [scaled, signed]
  rw [unscaled, ← signed_mul, mul_assoc, ← pow_add, Nat.sub_add_cancel h]

/-- Two numbers scaled to the lesser of their exponents compare as they do scaled to any `e` below both. -/
theorem scaled_lt_scaled_iff (neg neg' : Bool) (m m' : Nat) (e : Int) (j j' : Nat) :
    scaled neg m (e + j) (min (e + j) (e + j')) < scaled neg' m' (e + j') (min (e + j) (e + j')) ↔
      signed neg (m * 2 ^ j) < signed neg' (m' * 2 ^ j') := by
  have least : min (e + j) (e + j') = e + (min j j' : Nat) := by omega
  rw [least, ← scaled_mul_pow neg m e (min_le_left j j'), ← scaled_mul_pow neg' m' e (min_le_right j j')]
  exact (Int.mul_lt_mul_right (by positivity)).symm

namespace FpFormat

variable {t : FpFormat}

/-! The number of a magnitude. -/

/-- The number that a magnitude, its exponent and fraction bits, stands for, in units of the last place of a
denormalised number. -/
def units (t : FpFormat) (k : Nat) : Nat :=
  if k / 2 ^ t.fracBits = 0 then k % 2 ^ t.fracBits
  else (k % 2 ^ t.fracBits + 2 ^ t.fracBits) * 2 ^ (k / 2 ^ t.fracBits - 1)

theorem units_zero (t : FpFormat) : t.units 0 = 0 := by simp [units]

/-- A significand placed `q` steps up, as rounding places it: its leading bit, if it has one, counts in the exponent. -/
theorem units_place {q mant : Nat} (room : mant < 2 ^ (t.fracBits + 1)) (leading : q = 0 ∨ 2 ^ t.fracBits ≤ mant) :
    t.units (q * 2 ^ t.fracBits + mant) = mant * 2 ^ q := by
  have base : 0 < 2 ^ t.fracBits := by positivity
  rw [pow_succ] at room
  by_cases normal : 2 ^ t.fracBits ≤ mant
  · obtain ⟨frac, rfl⟩ := Nat.exists_eq_add_of_le normal
    have fits : frac < 2 ^ t.fracBits := by omega
    have fields : q * 2 ^ t.fracBits + (2 ^ t.fracBits + frac) = frac + 2 ^ t.fracBits * (q + 1) := by ring
    rw [fields, units, Nat.add_mul_div_left _ _ base, Nat.add_mul_mod_self_left, Nat.mod_eq_of_lt fits,
      Nat.div_eq_of_lt fits]
    simp [add_comm]
  · obtain rfl := leading.resolve_right normal
    have fits : mant < 2 ^ t.fracBits := by omega
    simp [units, Nat.div_eq_of_lt fits, Nat.mod_eq_of_lt fits]

/-- Every magnitude is a significand so placed. -/
theorem exists_place (t : FpFormat) (k : Nat) : ∃ q mant, k = q * 2 ^ t.fracBits + mant ∧
    mant < 2 ^ (t.fracBits + 1) ∧ (q = 0 ∨ 2 ^ t.fracBits ≤ mant) := by
  have base : 0 < 2 ^ t.fracBits := by positivity
  have frac := Nat.mod_lt k base
  have whole := Nat.div_add_mod' k (2 ^ t.fracBits)
  rw [pow_succ]
  rcases Nat.eq_zero_or_eq_succ_pred (k / 2 ^ t.fracBits) with denormal | normal
  · exact ⟨0, k, by omega, by rw [denormal] at whole; omega, .inl rfl⟩
  · refine ⟨(k / 2 ^ t.fracBits).pred, k % 2 ^ t.fracBits + 2 ^ t.fracBits, ?_, by omega, .inr (by omega)⟩
    rw [normal, Nat.succ_mul] at whole
    omega

/-- The next magnitude has the next significand, or the least one a step up. -/
theorem units_strictMono (t : FpFormat) : StrictMono t.units := by
  refine strictMono_nat_of_lt_succ fun k => ?_
  obtain ⟨q, mant, rfl, room, leading⟩ := t.exists_place k
  rw [units_place room leading, add_assoc]
  by_cases carry : mant + 1 < 2 ^ (t.fracBits + 1)
  · rw [units_place carry (by omega)]
    exact Nat.mul_lt_mul_of_pos_right (Nat.lt_succ_self mant) (by positivity)
  · have full : mant + 1 = 2 ^ t.fracBits + 2 ^ t.fracBits := by rw [pow_succ] at room carry; omega
    have up : q * 2 ^ t.fracBits + (mant + 1) = (q + 1) * 2 ^ t.fracBits + 2 ^ t.fracBits := by rw [full]; ring
    rw [up, units_place (Nat.pow_lt_pow_right one_lt_two (Nat.lt_succ_self _)) (.inr le_rfl)]
    calc mant * 2 ^ q < (2 ^ t.fracBits + 2 ^ t.fracBits) * 2 ^ q :=
          Nat.mul_lt_mul_of_pos_right (by omega) (by positivity)
      _ = 2 ^ t.fracBits * 2 ^ (q + 1) := by ring

/-! The value of a pattern. -/

theorem infBits_lt_signBit (t : FpFormat) : t.infBits < t.signBit := by
  have := Nat.one_le_two_pow (n := t.expBits)
  rw [infBits, signBit, pow_add, mul_comm]
  exact Nat.mul_lt_mul_of_pos_left (by omega) (by positivity)

/-- A pattern with its sign and magnitude told apart. -/
theorem decode_withSign {k : Nat} (neg : Bool) (hk : k < t.signBit) : t.decode (t.withSign neg k) =
    if k / 2 ^ t.fracBits = 2 ^ t.expBits - 1 then if k % 2 ^ t.fracBits = 0 then .inf neg else .nan
    else if k / 2 ^ t.fracBits = 0 then .fin neg (k % 2 ^ t.fracBits) t.minExp
    else .fin neg (k % 2 ^ t.fracBits + 2 ^ t.fracBits) (t.minExp + (k / 2 ^ t.fracBits - 1 : Nat)) := by
  have sign : decide (t.signBit ≤ t.withSign neg k) = neg := by cases neg <;> simp [withSign, hk]
  have split : t.signBit = 2 ^ t.fracBits * 2 ^ t.expBits := pow_add ..
  have magnitude : t.withSign neg k % t.signBit = k := by
    cases neg <;> simp [withSign, Nat.mod_eq_of_lt hk]
  have exponent : t.withSign neg k / 2 ^ t.fracBits % 2 ^ t.expBits = k / 2 ^ t.fracBits := by
    rw [← Nat.mod_mul_right_div_self, ← split, magnitude]
  have fraction : t.withSign neg k % 2 ^ t.fracBits = k % 2 ^ t.fracBits := by
    conv_rhs => rw [← magnitude, Nat.mod_mod_of_dvd _ (split ▸ Nat.dvd_mul_right _ _)]
  simp only [decode, sign, exponent, fraction]

theorem decode_inf (neg : Bool) : t.decode (t.withSign neg t.infBits) = .inf neg := by
  rw [decode_withSign neg t.infBits_lt_signBit]
  simp [infBits]

/-- The magnitudes past infinity have every exponent bit set and a fraction bit. -/
theorem infBits_lt_iff {k : Nat} (hk : k < t.signBit) :
    t.infBits < k ↔ k / 2 ^ t.fracBits = 2 ^ t.expBits - 1 ∧ k % 2 ^ t.fracBits ≠ 0 := by
  have base : 0 < 2 ^ t.fracBits := by positivity
  have high : k / 2 ^ t.fracBits < 2 ^ t.expBits := by
    rwa [Nat.div_lt_iff_lt_mul base, mul_comm, ← pow_add]
  have low : t.infBits ≤ k ↔ 2 ^ t.expBits - 1 ≤ k / 2 ^ t.fracBits := (Nat.le_div_iff_mul_le base).symm
  have whole (full : k / 2 ^ t.fracBits = 2 ^ t.expBits - 1) : t.infBits + k % 2 ^ t.fracBits = k := by
    rw [infBits, ← full, Nat.div_add_mod']
  constructor
  · intro above
    have full : k / 2 ^ t.fracBits = 2 ^ t.expBits - 1 := le_antisymm (by omega) (low.mp above.le)
    have := whole full
    exact ⟨full, by omega⟩
  · rintro ⟨full, fraction⟩
    have := whole full
    omega

theorem decode_nan {k : Nat} (neg : Bool) (above : t.infBits < k) (hk : k < t.signBit) :
    t.decode (t.withSign neg k) = .nan := by
  obtain ⟨full, fraction⟩ := (infBits_lt_iff hk).mp above
  rw [decode_withSign neg hk, if_pos full, if_neg fraction]

theorem decode_fin {k : Nat} (neg : Bool) (below : k < t.infBits) :
    ∃ m j : Nat, t.decode (t.withSign neg k) = .fin neg m (t.minExp + j) ∧ m * 2 ^ j = t.units k := by
  have exponent : k / 2 ^ t.fracBits < 2 ^ t.expBits - 1 := (Nat.div_lt_iff_lt_mul (by positivity)).mpr below
  rw [decode_withSign neg (below.trans t.infBits_lt_signBit), if_neg exponent.ne, units]
  split_ifs with denormal
  · exact ⟨k % 2 ^ t.fracBits, 0, by simp, by simp⟩
  · exact ⟨_, _, rfl, rfl⟩

/-! Comparisons. -/

/-- An infinity is past every number, and numbers compare in units. -/
theorem less_decode {k k' : Nat} (neg neg' : Bool) (hk : k ≤ t.infBits) (hk' : k' ≤ t.infBits)
    (inf_pos : 0 < t.infBits) :
    (t.decode (t.withSign neg k)).less (t.decode (t.withSign neg' k')) = decide (signed neg k < signed neg' k') := by
  rcases hk.eq_or_lt with rfl | hk <;> rcases hk'.eq_or_lt with rfl | hk'
  · rw [decode_inf, decode_inf]
    cases neg <;> cases neg' <;> simp [FpValue.less, signed]
    omega
  · obtain ⟨m', j', number', -⟩ := decode_fin neg' hk'
    rw [decode_inf, number']
    cases neg <;> cases neg' <;> simp [FpValue.less, signed] <;> omega
  · obtain ⟨m, j, number, -⟩ := decode_fin neg hk
    rw [decode_inf, number]
    cases neg <;> cases neg' <;> simp [FpValue.less, signed] <;> omega
  · obtain ⟨m, j, number, units⟩ := decode_fin neg hk
    obtain ⟨m', j', number', units'⟩ := decode_fin neg' hk'
    rw [number, number', FpValue.less, decide_eq_decide, scaled_lt_scaled_iff, units, units',
      signed_lt_signed_iff t.units_strictMono t.units_zero]

/-- Of two values neither of which is a not-a-number, those are equal of which neither is less. -/
theorem equal_eq_not_less {v v' : FpValue} (hv : v ≠ .nan) (hv' : v' ≠ .nan) :
    v.equal v' = (!v.less v' && !v'.less v) := by
  cases v <;> cases v' <;> simp_all [FpValue.equal, FpValue.less]
  case inf.inf n n' => cases n <;> cases n' <;> rfl
  case fin.fin n m e n' m' e' =>
    rw [min_comm e' e, Bool.eq_iff_iff]
    simp
    omega

theorem decode_ne_nan {k : Nat} (neg : Bool) (hk : k ≤ t.infBits) : t.decode (t.withSign neg k) ≠ .nan := by
  rcases hk.eq_or_lt with rfl | below
  · rw [decode_inf]
    nofun
  · obtain ⟨m, j, number, -⟩ := decode_fin neg below
    rw [number]
    nofun

theorem equal_decode {k k' : Nat} (neg neg' : Bool) (hk : k ≤ t.infBits) (hk' : k' ≤ t.infBits)
    (inf_pos : 0 < t.infBits) :
    (t.decode (t.withSign neg k)).equal (t.decode (t.withSign neg' k')) = decide (signed neg k = signed neg' k') := by
  rw [equal_eq_not_less (decode_ne_nan neg hk) (decode_ne_nan neg' hk'), less_decode neg neg' hk hk' inf_pos,
    less_decode neg' neg hk' hk inf_pos, Bool.eq_iff_iff]
  simp
  omega

theorem compare_nan {v v' : FpValue} (h : v = .nan ∨ v' = .nan) (op : FpCmp) : v.compare op v' = false := by
  rcases h with rfl | rfl
  · cases op <;> rfl
  · cases op <;> cases v <;> rfl

/-! Patterns as words. -/

section
variable {w : Nat}

/-- The exponent and fraction bits. -/
def magnitude (t : FpFormat) (v : BitVec w) : Nat := (v.extractLsb' 0 (t.fracBits + t.expBits)).toNat

/-- The exponent and fraction bits as an integer with the sign of the sign bit. -/
def key (t : FpFormat) (v : BitVec w) : Int := signed (v.getLsbD (t.fracBits + t.expBits)) (t.magnitude v)

/-- Every exponent bit is set, and a fraction bit. -/
def IsNan (t : FpFormat) (v : BitVec w) : Prop :=
  v.extractLsb' t.fracBits t.expBits = BitVec.allOnes t.expBits ∧ v.extractLsb' 0 t.fracBits ≠ 0#t.fracBits

theorem magnitude_lt_signBit (t : FpFormat) (v : BitVec w) : t.magnitude v < t.signBit := BitVec.isLt _

theorem isNan_iff (t : FpFormat) (v : BitVec w) : t.IsNan v ↔ t.infBits < t.magnitude v := by
  have exponent : (v.extractLsb' t.fracBits t.expBits).toNat = t.magnitude v / 2 ^ t.fracBits := by
    rw [magnitude, BitVec.extractLsb'_toNat, BitVec.extractLsb'_toNat, Nat.shiftRight_zero, pow_add,
      Nat.mod_mul_right_div_self, Nat.shiftRight_eq_div_pow]
  have fraction : (v.extractLsb' 0 t.fracBits).toNat = t.magnitude v % 2 ^ t.fracBits := by
    rw [magnitude, BitVec.extractLsb'_toNat, BitVec.extractLsb'_toNat, pow_add, Nat.mod_mul_right_mod]
  rw [infBits_lt_iff (t.magnitude_lt_signBit v), IsNan, ← BitVec.toNat_inj, ne_eq, ← BitVec.toNat_inj, exponent,
    fraction, BitVec.toNat_allOnes, BitVec.toNat_ofNat, Nat.zero_mod]

/-- A word of the format is its sign and magnitude. -/
theorem toNat_eq_withSign (hw : w = t.fracBits + t.expBits + 1) (v : BitVec w) :
    v.toNat = t.withSign (v.getLsbD (t.fracBits + t.expBits)) (t.magnitude v) := by
  subst hw
  have sign : v.getLsbD (t.fracBits + t.expBits) = decide (t.signBit ≤ v.toNat) :=
    v.msb_eq_getLsbD_last ▸ v.msb_eq_decide
  have low : t.magnitude v = v.toNat % t.signBit := BitVec.extractLsb'_toNat ..
  have bound : v.toNat < t.signBit + t.signBit := by
    rw [← mul_two]
    exact v.isLt
  rw [sign, low, withSign]
  split_ifs with negative
  · rw [decide_eq_true_eq] at negative
    rw [Nat.mod_eq_sub_mod negative, Nat.mod_eq_of_lt (by omega), Nat.add_sub_cancel' negative]
  · rw [decide_eq_true_eq, not_le] at negative
    exact (Nat.mod_eq_of_lt negative).symm

/-- The comparisons of a format order its words by their signed magnitudes, and none holds with a not-a-number. -/
theorem compare_words (hw : w = t.fracBits + t.expBits + 1) (inf_pos : 0 < t.infBits) (a b : BitVec w) :
    ((t.IsNan a ∨ t.IsNan b) → ∀ op, (t.decode a.toNat).compare op (t.decode b.toNat) = false) ∧
    (¬ t.IsNan a → ¬ t.IsNan b →
      (t.decode a.toNat).compare .lt (t.decode b.toNat) = decide (t.key a < t.key b) ∧
      (t.decode a.toNat).compare .le (t.decode b.toNat) = decide (t.key a ≤ t.key b) ∧
      (t.decode a.toNat).compare .eq (t.decode b.toNat) = decide (t.key a = t.key b)) := by
  simp only [isNan_iff, not_lt, toNat_eq_withSign hw]
  constructor
  · rintro (above | above)
    · exact compare_nan (.inl (decode_nan _ above (t.magnitude_lt_signBit a)))
    · exact compare_nan (.inr (decode_nan _ above (t.magnitude_lt_signBit b)))
  · intro number number'
    have less : FpValue.less _ _ = decide (t.key a < t.key b) := less_decode _ _ number number' inf_pos
    have equal : FpValue.equal _ _ = decide (t.key a = t.key b) := equal_decode _ _ number number' inf_pos
    refine ⟨less, ?_, equal⟩
    rw [FpValue.compare, less, equal, ← Bool.decide_or, decide_eq_decide, le_iff_lt_or_eq]

end

end FpFormat

/-! The sign bit. -/

theorem and_clears_sign {w : Nat} (a : BitVec (1 + w)) :
    a &&& (0#1 ++ BitVec.allOnes w) = 0#1 ++ a.extractLsb' 0 w := by
  ext i hi
  by_cases low : i < w
  · simp [BitVec.getElem_append, low, BitVec.getLsbD_eq_getElem hi]
  · simp [BitVec.getElem_append, low]

theorem xor_inverts_sign {w : Nat} (a : BitVec (1 + w)) :
    a ^^^ (1#1 ++ 0#w) = ~~~(a.extractLsb' w 1) ++ a.extractLsb' 0 w := by
  ext i hi
  by_cases low : i < w
  · simp [BitVec.getElem_append, low, BitVec.getLsbD_eq_getElem hi]
  · obtain rfl : i = w := by omega
    simp [BitVec.getElem_append]

/-- Settles O54: the comparisons are proved for any format and a sign bit for any width; the two formats are cases of
both. -/
theorem ieee754Comparisons : Obligations.Ieee754Comparisons := by
  refine ⟨fun a b => ?single, fun a b => ?double⟩
  case single =>
    obtain ⟨unordered, ordered⟩ := binary32.compare_words rfl (by decide) a b
    exact ⟨unordered, ordered, and_clears_sign (w := 31) a, xor_inverts_sign (w := 31) a⟩
  case double =>
    obtain ⟨unordered, ordered⟩ := binary64.compare_words rfl (by decide) a b
    exact ⟨unordered, ordered, and_clears_sign (w := 63) a, xor_inverts_sign (w := 63) a⟩

/-! Integers. -/

namespace FpFormat

variable {t : FpFormat}

/-- Of an integer that the fraction has room for, rounding keeps every bit: the significand is moved up until it has its
leading bit, or the exponent its least value, and the exponent makes up for it. -/
theorem roundBits_integer {m b : Nat} (room : m < 2 ^ (t.fracBits + 1)) (least : t.minExp = -(b : Int))
    (range : b + 2 < 2 ^ t.expBits) : t.roundBits m 0 < t.infBits ∧ t.units (t.roundBits m 0) = m * 2 ^ b := by
  have exponents : b + 2 ≤ 2 ^ t.expBits - 1 := by omega
  rcases Nat.eq_zero_or_pos m with rfl | positive
  · rw [roundBits, if_pos rfl, units_zero, zero_mul, infBits]
    exact ⟨Nat.mul_pos (by omega) (by positivity), rfl⟩
  have bits : Nat.log2 m ≤ t.fracBits := Nat.lt_succ_iff.mp ((Nat.log2_lt positive.ne').mpr room)
  obtain ⟨up, up_eq⟩ : ∃ up, up = min b (t.fracBits - Nat.log2 m) := ⟨_, rfl⟩
  have last : max t.minExp (0 + (Nat.log2 m : Int) - t.fracBits) = -(up : Int) := by omega
  have fits : m * 2 ^ up < 2 ^ (t.fracBits + 1) := by
    calc m * 2 ^ up < 2 ^ (Nat.log2 m + 1) * 2 ^ up :=
          Nat.mul_lt_mul_of_pos_right Nat.lt_log2_self (by positivity)
      _ = 2 ^ (Nat.log2 m + 1 + up) := (pow_add ..).symm
      _ ≤ 2 ^ (t.fracBits + 1) := Nat.pow_le_pow_right two_pos (by omega)
  have leading : b - up = 0 ∨ 2 ^ t.fracBits ≤ m * 2 ^ up := by
    rcases le_total b (t.fracBits - Nat.log2 m) with denormal | normal
    · exact .inl (by omega)
    · right
      calc 2 ^ t.fracBits = 2 ^ Nat.log2 m * 2 ^ up := by rw [← pow_add]; congr 1; omega
        _ ≤ m * 2 ^ up := Nat.mul_le_mul_right _ (Nat.log2_self_le positive.ne')
  have finite : (b - up) * 2 ^ t.fracBits + m * 2 ^ up < t.infBits := by
    calc (b - up) * 2 ^ t.fracBits + m * 2 ^ up < (b - up) * 2 ^ t.fracBits + 2 ^ (t.fracBits + 1) := by omega
      _ = (b - up + 2) * 2 ^ t.fracBits := by ring
      _ ≤ t.infBits := Nat.mul_le_mul_right _ (by omega)
  have rounded : t.roundBits m 0 = (b - up) * 2 ^ t.fracBits + m * 2 ^ up := by
    have place : (-(up : Int) - t.minExp).toNat = b - up := by omega
    have shift : (0 - -(up : Int)).toNat = up := by omega
    rw [roundBits, if_neg positive.ne', last]
    simp only [if_pos (show -(up : Int) ≤ 0 by omega), place, shift]
    exact min_eq_right finite.le
  rw [rounded, units_place fits leading, mul_assoc, ← pow_add]
  exact ⟨finite, congrArg (m * 2 ^ ·) (by omega)⟩

/-- A number that is an integer is read as that integer, whichever neighbour would be taken for another (R367). -/
theorem toInteger_fin (up neg : Bool) {m j b n : Nat} (h : m * 2 ^ j = n * 2 ^ b) :
    (FpValue.fin neg m (-(b : Int) + j)).toInteger up = some (signed neg n) := by
  rw [FpValue.toInteger]
  by_cases whole : 0 ≤ -(b : Int) + j
  · have shift : (-(b : Int) + j - 0).toNat = j - b := by omega
    have value : m * 2 ^ (j - b) = n := by
      refine Nat.eq_of_mul_eq_mul_right (by positivity : 0 < 2 ^ b) ?_
      rw [mul_assoc, ← pow_add, Nat.sub_add_cancel (by omega), h]
    rw [if_pos whole, ← value, scaled, signed, shift]
    push_cast
    rfl
  · have shift : (-(-(b : Int) + j)).toNat = b - j := by omega
    have value : m = n * 2 ^ (b - j) := by
      refine Nat.eq_of_mul_eq_mul_right (by positivity : 0 < 2 ^ j) ?_
      rw [mul_assoc, ← pow_add, Nat.sub_add_cancel (by omega), h]
    have number : (if neg = true then -(m : Int) else m) = signed neg n * 2 ^ (b - j) := by
      rw [value]
      exact (signed_mul neg n _).trans (by push_cast; rfl)
    simp only [if_neg whole, shift, number, Int.mul_emod_left, if_true]
    rw [Int.mul_ediv_cancel _ (by positivity)]

/-- An integer that the fraction has room for is read back from its rounding. -/
theorem toInteger_round (up neg : Bool) {m b : Nat} (room : m < 2 ^ (t.fracBits + 1)) (least : t.minExp = -(b : Int))
    (range : b + 2 < 2 ^ t.expBits) : (t.decode (t.round neg m 0)).toInteger up = some (signed neg m) := by
  obtain ⟨finite, units⟩ := roundBits_integer room least range
  obtain ⟨mant, j, number, value⟩ := decode_fin neg finite
  rw [round, number, least]
  exact toInteger_fin up neg (value.trans units)

theorem round_lt (t : FpFormat) (neg : Bool) (m : Nat) (e : Int) : t.round neg m e < t.signBit + t.signBit := by
  have magnitude : t.roundBits m e < t.signBit := by
    refine lt_of_le_of_lt ?_ t.infBits_lt_signBit
    rw [roundBits]
    split_ifs
    · exact Nat.zero_le _
    · exact min_le_left _ _
  rw [round, withSign]
  split_ifs <;> omega

end FpFormat

theorem wordOfInteger_toInt (free a : Word) : wordOfInteger free (some a.toInt) = a := by
  have low := BitVec.le_toInt a
  have high := BitVec.toInt_lt (x := a)
  rw [wordOfInteger, if_pos (by omega), BitVec.ofInt_toInt]

/-- Settles O55: the fraction of a double has room for a word, so that the rounding keeps the integer (R364), and the
integer is read back whatever the choices are for other values (R367). -/
theorem integerDoubleRoundTrip : Obligations.IntegerDoubleRoundTrip := by
  intro free a
  have pattern : (fpCvtDW .ieee754 a).toNat = binary64.round (decide (a.toInt < 0)) a.toInt.natAbs 0 :=
    Nat.mod_eq_of_lt (binary64.round_lt _ _ _)
  have room : a.toInt.natAbs < 2 ^ (binary64.fracBits + 1) := by
    have low := BitVec.le_toInt a
    have high := BitVec.toInt_lt (x := a)
    show _ < 2 ^ 53
    omega
  have integer up : (binary64.decode (fpCvtDW .ieee754 a).toNat).toInteger up = some a.toInt := by
    rw [pattern, FpFormat.toInteger_round (b := 1074) up _ room (by decide) (by decide), signed_natAbs]
  rw [fpCvtWD, integer, wordOfInteger_toInt]

end Sys2Proof.Machine
end

section
/-! PROOFS. What a step can do: run a bare instruction, which ends in one of a few ways, or enter a trap; and from it
that only a host service ends a run and that user mode is left only by trap entry (R31, R401, R425, R436, R437,
R445). -/

namespace Sys2Proof.Machine

/-! How a bare instruction ends. -/

/-- The ways a bare instruction can end: completing, in user mode with coprocessor 0 as it was; trap entry from the
state it was executed in; the end of the run, with host services only; or a refusal. -/
def Effect.Ends (s : State) : Effect → Prop
  | .done t => s.userMode = true → SameSystem s t
  | .trap t => ∃ e info, t = s.trapEntry e info
  | .stop _ => s.params.syscallMode = .hostService
  | .refuse _ => True

theorem sameSystem_setX (s : State) (r : RegIdx) (v : Word) : SameSystem s (s.setX r v) := by
  simp [SameSystem]

theorem ends_retireWith {s t : State} (p : Option LoadPending) (h : SameSystem s t) :
    (Effect.done (t.retireWith p)).Ends s :=
  fun _ => h

theorem ends_raise (s : State) (e : Exc) (info : Word) : (s.raise e info).Ends s := ⟨e, info, rfl⟩

theorem ends_write (s : State) (rd : RegIdx) (v : Word) : (s.write rd v).Ends s :=
  ends_retireWith none (sameSystem_setX s rd v)

theorem ends_writeChecked (s : State) (rd : RegIdx) (t : Option Word) : (s.writeChecked rd t).Ends s := by
  cases t with
  | some v => exact ends_write s rd v
  | none => exact ends_raise s .ovf 0#32

/-- A branch or jump is refused in a delay slot and completes outside one (R471 c). -/
theorem ends_branch {s t : State} (h : SameSystem s t) (taken : Bool) (target : Word) :
    (t.branch taken target).Ends s := by
  cases slot : t.inDelaySlot with
  | true =>
    rw [t.branch_refused taken target slot]
    trivial
  | false =>
    rw [t.branch_eq_done taken target slot]
    exact fun _ => h

/-- In user mode a kernel-only instruction traps, whatever it would do in kernel mode (R437). -/
theorem ends_privileged {s : State} {k : Effect} (h : s.userMode = false → k.Ends s) : (s.privileged k).Ends s := by
  cases mode : s.userMode with
  | true =>
    rw [State.privileged, if_pos mode]
    exact ends_raise s .ri 0#32
  | false =>
    rw [s.privileged_kernel k mode]
    exact h mode

theorem ends_ifAligned {s : State} {k : Effect} (e : Exc) (a : Word) (h : k.Ends s) : (s.ifAligned e a k).Ends s := by
  unfold State.ifAligned
  split_ifs
  · exact h
  · exact ends_raise s e a

theorem ends_loadAt {s : State} {k : Effect} (a : Word) (aligned : Bool) (span : List Word) (h : k.Ends s) :
    (s.loadAt a aligned span k).Ends s := by
  unfold State.loadAt
  cases s.dataFault .addrl a aligned span with
  | some e => exact ends_raise s e a
  | none => exact h

theorem ends_storeAt (s : State) (a : Word) (aligned : Bool) (span : List Word) (bytes : List (Word × Byte)) :
    (s.storeAt a aligned span bytes).Ends s := by
  unfold State.storeAt
  cases s.dataFault .addrs a aligned span with
  | some e => exact ends_raise s e a
  | none => exact ends_retireWith none (.refl s)

theorem ends_evenOnly {s : State} {k : Effect} (regs : List RegIdx) (h : k.Ends s) : (evenOnly regs k).Ends s := by
  unfold evenOnly
  split_ifs
  · exact h
  · trivial

/-- A write of `Status` is kernel mode's alone. -/
theorem ends_writeStatus (s : State) (v : Word) (kernel : s.userMode = false) : (s.writeStatus v).Ends s := by
  unfold State.writeStatus
  split_ifs
  · exact fun user => absurd (kernel.symm.trans user) (by decide)
  · trivial

theorem ends_hostService (s : State) (h : s.params.syscallMode = .hostService) : s.hostService.Ends s := by
  unfold State.hostService
  cases Config.hostService s.hostView with
  | none => exact h
  | some r => exact ends_retireWith none (.refl s)

/-- Every bare instruction ends in one of these ways: each is one of the shared operations. -/
theorem ends_wordEffect (i : Instr) (s : State) : (wordEffect i s).Ends s := by
  cases i with
  | sll | srl | sra | sllv | srlv | srav | addu | subu | and | or | xor | nor | slt | sltu
  | addiu | slti | sltiu | andi | ori | xori | lui | mfhi | mflo => exact ends_write s _ _
  | add | sub | addi => exact ends_writeChecked s _ _
  | mult | multu | div | divu | mthi | mtlo => exact ends_retireWith none (.refl s)
  | beq | bne | bgez | bltz | bgtz | blez | bc1t | bc1f | j | jr => exact ends_branch (.refl s) _ _
  | bgezal | bltzal | jal | jalr => exact ends_branch (sameSystem_setX s _ _) _ _
  | syscall code =>
    show Effect.Ends s (opSyscall code s)
    unfold opSyscall
    cases mode : s.params.syscallMode with
    | trap => exact ends_raise s .syscall 0#32
    | hostService => exact ends_hostService s mode
  | brk => exact ends_raise s .bkpt 0#32
  | rfe => exact ends_privileged fun kernel user => absurd (kernel.symm.trans user) (by decide)
  | mfc0 rt rd =>
    refine ends_privileged fun _ => ?_
    cases s.cp0Read rd with
    | none => trivial
    | some v => exact ends_retireWith _ (sameSystem_setX s rt v)
  | mtc0 rt rd =>
    refine ends_privileged fun kernel => ?_
    cases cp0WriteRefusal rd with
    | some r => trivial
    | none => exact ends_writeStatus s _ kernel
  | mfc1 => exact ends_retireWith _ (sameSystem_setX s _ _)
  | mtc1 => exact ends_retireWith _ (.refl s)
  | addS | subS | mulS | divS | absS | negS | movS | cvtSD | cvtSW | cvtWD | cvtWS
  | addD | subD | mulD | divD | absD | negD | movD | cvtDS | cvtDW
  | cEqS | cLtS | cLeS | cEqD | cLtD | cLeD => exact ends_evenOnly _ (ends_retireWith none (.refl s))
  | lb | lbu | lh | lhu | lw | lwl | lwr => exact ends_loadAt _ _ _ (ends_retireWith _ (sameSystem_setX s _ _))
  | lwc0 rt =>
    refine ends_loadAt _ _ _ (ends_privileged fun kernel => ?_)
    cases cp0WriteRefusal rt with
    | some r => trivial
    | none => exact ends_writeStatus s _ kernel
  | lwc1 => exact ends_loadAt _ _ _ (ends_retireWith _ (.refl s))
  | lwc2 | lwc3 => exact ends_loadAt _ _ _ trivial
  | sb | sh | sw | swl | swr | swc1 => exact ends_storeAt s _ _ _ _
  | swc0 rt =>
    refine ends_ifAligned _ _ (ends_privileged fun _ => ?_)
    cases s.cp0Read rt with
    | none => trivial
    | some v => exact ends_storeAt s _ _ _ _
  | swc2 | swc3 => exact ends_ifAligned _ _ trivial
  | _ => trivial

/-! The step. -/

theorem State.decodeWord_of_decoded {s t : State} {w : Word} {i : Instr} (h : s.decoded w = .ready i t) :
    decodeWord w = .instr i := by
  unfold State.decoded at h
  split at h <;> cases h
  assumption

/-- A fetch delivers bare instructions only: what it delivers has been decoded from a word (R3, R31). -/
theorem State.isPseudo_of_fetch {s t : State} {i : Instr} (h : s.fetch = .ready i t) : i.isPseudo = false := by
  unfold State.fetch at h
  dsimp only at h
  split at h
  · cases h
  · split at h
    · cases h
    · split at h
      · cases h
      · exact (encodeOfDecodeIsIdentity _ i (State.decodeWord_of_decoded h)).1

/-- Everything a step can do, in the state whose interrupt lines have been sampled (R31). -/
theorem step_ends (s : State) : ∃ x : Effect, step s = x.outcome ∧ x.Ends s.sampleInterrupts := by
  unfold step
  rcases s.fetch_cases with ⟨i, hf⟩ | ⟨e, info, hf⟩ | ⟨r, hf⟩
  · exact ⟨_, hf ▸ exec_of_bare i _ (State.isPseudo_of_fetch hf), ends_wordEffect i _⟩
  · exact ⟨_, hf ▸ rfl, ends_raise _ e info⟩
  · exact ⟨.refuse r, hf ▸ rfl, trivial⟩

/-- Settles O16: in user mode a step completes, with coprocessor 0 as it was, or is trap entry. -/
theorem userModeLeavesOnlyByTrapEntry : Obligations.UserModeLeavesOnlyByTrapEntry := by
  intro s t user h
  obtain ⟨x, hx, ends⟩ := step_ends s
  rw [hx] at h
  cases x with
  | done u =>
    cases h
    obtain ⟨-, status, excCode, -, epc, badVAddr, -, -⟩ := ends user
    exact .inl ⟨status, epc, excCode, badVAddr⟩
  | trap u =>
    cases h
    obtain ⟨e, info, rfl⟩ := ends
    exact .inr ⟨State.userMode_trapEntry _ e info, rfl, rfl, rfl, rfl, e.code_mem, fun _ => rfl, ⟨rfl, rfl⟩,
      ⟨fun _ => rfl, rfl⟩, ⟨fun _ => rfl, rfl⟩, rfl, rfl⟩
  | stop r | refuse r => cases h

/-- Settles O12: the one way to a fault is a host service. -/
theorem onlyTheHostEndsARun : Obligations.OnlyTheHostEndsARun := by
  intro s mode r h
  obtain ⟨x, hx, ends⟩ := step_ends s
  rw [hx] at h
  cases x with
  | done u | trap u | refuse q => cases h
  | stop q =>
    have host : s.params.syscallMode = .hostService := ends
    exact absurd (mode.symm.trans host) (by decide)

end Sys2Proof.Machine
end

section
/-! PROOFS. The exceptions that instructions raise for themselves, the return from one, and the refusal of a branch in a
delay slot (R400, R401, R402, R417, R418, R425, R437, R471 c). -/

namespace Sys2Proof.Machine

/-- Settles O48: each of the nine is `raise`, with its own code. -/
theorem trapEntryPushesAndRecords : Obligations.TrapEntryPushesAndRecords := by
  intro s info
  refine ⟨s.raise_spec .addrl info, s.raise_spec .addrs info, ?_⟩
  simp only [List.forall_mem_cons]
  exact ⟨s.raise_spec .int info, s.raise_spec .ibus info, s.raise_spec .dbus info, s.raise_spec .syscall info,
    s.raise_spec .bkpt info, s.raise_spec .ri info, s.raise_spec .ovf info, fun _ h => absurd h List.not_mem_nil⟩

theorem exec_syscall_trap (s : State) (code : BitVec 20) (h : s.params.syscallMode = .trap) :
    exec (.syscall code) s = (s.raise .syscall 0#32).outcome := by
  show (opSyscall code s).outcome = _
  rw [opSyscall, h]

theorem exec_syscall_hostService (s : State) (code : BitVec 20) (h : s.params.syscallMode = .hostService) :
    exec (.syscall code) s = s.hostService.outcome := by
  show (opSyscall code s).outcome = _
  rw [opSyscall, h]

/-- Settles O49: both are `raise`, whatever the code field. -/
theorem syscallAndBreakTrap : Obligations.SyscallAndBreakTrap := by
  intro s code
  refine ⟨s.raise_spec .bkpt 0#32, fun mode => ?_⟩
  rw [exec_syscall_trap s code mode]
  exact s.raise_spec .syscall 0#32

/-- Settles O46: what kernel mode guards traps in user mode; the address of `lwc0` and the alignment of that of `swc0`
are checked before the mode is. -/
theorem cop0TrapsInUserMode : Obligations.Cop0TrapsInUserMode := by
  intro s rt rd rs imm i user a
  refine ⟨?_, fun ha hc => ?_, fun ha => ?_⟩
  · revert i
    simp only [List.forall_mem_cons]
    exact ⟨s.privileged_user _ user, s.privileged_user _ user, s.privileged_user _ user,
      fun _ h => absurd h List.not_mem_nil⟩
  · show Traps (opLwc0 rt imm rs s).outcome s _ _
    rw [opLwc0, s.loadAt_passes _ _ _ _ ((aligned4_iff a).mpr ha) hc]
    exact s.privileged_user _ user
  · show Traps (opSwc0 rt imm rs s).outcome s _ _
    rw [opSwc0, (s.ifAligned_spec _ a _).1 ha]
    exact s.privileged_user _ user

/-- The two entries that a return overwrites take the bits of the entry below (R400). -/
theorem popStatus_getLsbD_low (v : Word) (i : Nat) (h4 : i < 4) :
    (popStatus v).getLsbD i = v.getLsbD (i + 2) := by
  simp only [popStatus, BitVec.getLsbD_append, BitVec.getLsbD_extractLsb', h4]
  simp [Nat.add_comm]

/-- Settles O47: in kernel mode `rfe` is the pop of the stack and nothing else. -/
theorem rfePopsTheStack : Obligations.RfePopsTheStack := by
  intro s kernel
  have pops : exec .rfe s = .next s.popException.retire := congrArg Effect.outcome (s.privileged_kernel _ kernel)
  refine ⟨_, pops, fun i => ?_, fun _ => rfl, ⟨rfl, rfl⟩, ⟨fun _ => rfl, rfl⟩, ⟨fun _ => rfl, rfl⟩, rfl, rfl, rfl,
    rfl, rfl, rfl, rfl, s.goesOn_retireWith s.popException none rfl rfl rfl, rfl⟩
  rw [State.retire_status, State.popException_status]
  split_ifs with h
  · exact popStatus_getLsbD_low s.status i h
  · exact popStatus_getLsbD s.status i (Nat.le_of_not_lt h)

/-- Settles O30: each of the fourteen is a branch, the linking ones after the write of their link. -/
theorem branchInDelaySlotRefused : Obligations.BranchInDelaySlotRefused := by
  intro s rd rs rt imm field i slot
  have refused taken target : (s.branch taken target).outcome = .refused .branchInDelaySlot :=
    congrArg Effect.outcome (s.branch_refused taken target slot)
  have link_refused r taken target :
      ((s.setX r s.linkValue).branch taken target).outcome = .refused .branchInDelaySlot :=
    congrArg Effect.outcome (State.branch_refused _ taken target ((s.inDelaySlot_setX r _).trans slot))
  revert i
  simp only [List.forall_mem_cons]
  exact ⟨refused _ _, refused _ _, refused _ _, refused _ _, refused _ _, refused _ _, refused _ _, refused _ _,
    link_refused _ _ _, link_refused _ _ _, refused _ _, link_refused _ _ _, refused _ _, link_refused _ _ _,
    fun _ h => absurd h List.not_mem_nil⟩

end Sys2Proof.Machine
end

section
/-! PROOFS. The interrupts, the host's services and the reset state (R50, R401, R432, R445, R460). -/

namespace Sys2Proof.Machine

/-! Interrupts. -/

/-- Some level is requested and allowed: its bit is set in `Status` at its place (R36, R432). -/
theorem status_and_spreadLevels_ne_zero_iff (status : Word) (p : Params) (lines : BitVec 5) :
    status &&& spreadLevels p lines ≠ 0#32 ↔
      ∃ l : Fin 5, lines.getLsbD l = true ∧ status.getLsbD p.intBit[l] = true := by
  have bit : status &&& spreadLevels p lines ≠ 0#32 ↔
      ∃ i, i < 32 ∧ status.getLsbD i = true ∧ (spreadLevels p lines).getLsbD i = true := by
    rw [ne_eq, BitVec.eq_of_getLsbD_eq_iff]
    simp
  rw [bit]
  constructor
  · rintro ⟨i, -, allowed, h⟩
    obtain ⟨-, l, requested, rfl⟩ := (spreadLevels_getLsbD p lines i).mp h
    exact ⟨l, requested, allowed⟩
  · rintro ⟨l, requested, allowed⟩
    have inWord := BitVec.lt_of_getLsbD allowed
    exact ⟨_, inWord, allowed, (spreadLevels_getLsbD p lines _).mpr ⟨inWord, l, requested, rfl⟩⟩

/-- When an interrupt is taken before the fetch (R432, R471 e). -/
theorem State.interruptTaken_iff (s : State) :
    s.interruptTaken = true ↔ s.inDelaySlot = false ∧ s.status.getLsbD 0 = true ∧
      ∃ l : Fin 5, s.intLines.getLsbD l = true ∧ s.status.getLsbD s.params.intBit[l] = true := by
  rw [← status_and_spreadLevels_ne_zero_iff, State.interruptTaken, Bool.and_eq_true, Bool.and_eq_true,
    Bool.not_eq_true', bne_iff_ne, and_assoc]

theorem step_of_interruptTaken (s : State) (h : s.sampleInterrupts.interruptTaken = true) :
    step s = (s.sampleInterrupts.raise .int 0#32).outcome := by
  simp [step, State.fetch, h, State.raise, Effect.outcome]

/-- Settles O8: the two hypotheses are the condition on which an interrupt is taken and its negation. -/
theorem interruptTakenExactlyWhenEnabled : Obligations.InterruptTakenExactlyWhenEnabled := by
  intro s
  have taken_iff := s.sampleInterrupts.interruptTaken_iff
  refine ⟨fun slot enabled level => ?_, fun h => ?_⟩
  · rw [step_of_interruptTaken s (taken_iff.mpr ⟨slot, enabled, level⟩)]
    exact s.sampleInterrupts.raise_spec .int 0#32
  · have untaken : s.sampleInterrupts.interruptTaken = false := by
      rw [← Bool.not_eq_true, taken_iff]
      rintro ⟨slot, enabled, l, requested, allowed⟩
      rcases h with h | h | h
      · exact absurd (h.symm.trans slot) (by decide)
      · exact absurd (h.symm.trans enabled) (by decide)
      · rcases h l with h | h
        · exact absurd (h.symm.trans requested) (by decide)
        · exact absurd (h.symm.trans allowed) (by decide)
    exact ⟨untaken, fun i noFault fresh decoded =>
      stepRunsDecodedInstruction s _ i s.sampleInterrupts_eq untaken noFault fresh decoded⟩

/-! Host services. -/

/-- Of the bytes written to one address the last one stays. -/
theorem Memory.byteAt_putAll_last (m : List Host.Cell) (earlier later : List (Word × Byte)) (a : Word) (b : Byte)
    (h : ∀ p ∈ later, p.1 ≠ a) :
    Memory.byteAt (Memory.putAll m (earlier ++ (a, b) :: later)) a.toNat = b := by
  rw [Memory.putAll_append, Memory.putAll_cons, Memory.byteAt_putAll_other _ _ _ h, Memory.byteAt_put, if_pos rfl]

/-- The addresses to which the host's reply writes where there is memory (R43, R401). -/
theorem State.mem_hostWrites_iff (s : State) (writes : List (Word × Byte)) (a : Word) :
    a ∈ (writes.filter fun w => s.mapped w.1).map Prod.fst ↔ a ∈ writes.map Prod.fst ∧ s.mapped a = true := by
  simp

/-- A byte that the host's reply does not name, or that is no memory, is as before. -/
theorem State.byte_hostApply_other (s : State) (r : HostReply) (a : Word)
    (h : a ∉ r.writes.map Prod.fst ∨ s.mapped a = false) : (s.hostApply r).byte a = s.byte a := by
  refine Memory.byteAt_putAll_other _ s.mem a ?_
  rintro ⟨_, b⟩ hp rfl
  obtain ⟨named, mapped⟩ := (s.mem_hostWrites_iff r.writes _).mp (List.mem_map_of_mem hp)
  rcases h with h | h
  · exact h named
  · exact absurd (h.symm.trans mapped) (by decide)

/-- A byte of memory that the host's reply names is the last one it gives for the address. -/
theorem State.byte_hostApply_last (s : State) (r : HostReply) (earlier later : List (Word × Byte)) (a : Word)
    (b : Byte) (hw : r.writes = earlier ++ (a, b) :: later) (last : a ∉ later.map Prod.fst)
    (mapped : s.mapped a = true) : (s.hostApply r).byte a = b := by
  have writes : (r.writes.filter fun w => s.mapped w.1) =
      (earlier.filter fun w => s.mapped w.1) ++ (a, b) :: later.filter fun w => s.mapped w.1 := by
    simp [hw, mapped]
  show Memory.byteAt (Memory.putAll s.mem (r.writes.filter fun w => s.mapped w.1)) a.toNat = b
  rw [writes]
  refine Memory.byteAt_putAll_last _ _ _ a b ?_
  rintro ⟨_, c⟩ hp rfl
  exact last (List.mem_map_of_mem (List.mem_of_mem_filter hp))

/-- Settles O50: the reply's registers but register 0, and its bytes where there is memory, are put into the state. -/
theorem syscallHostService : Obligations.SyscallHostService := by
  intro s code mode view
  have sees : view = s.hostView := rfl
  rw [exec_syscall_hostService s code mode, State.hostService, sees]
  cases Config.hostService s.hostView with
  | none => rfl
  | some r =>
    refine ⟨_, rfl, readSlot_writeSlot_same _ _ _, fun q hq => ?_, rfl, rfl, rfl, rfl, s.byte_hostApply_other r,
      s.byte_hostApply_last r, ?_, .refl s, s.goesOn_retireWith (s.hostApply r) none rfl rfl rfl, rfl⟩
    · exact (readSlot_writeSlot r.gpr q 0#5 _).trans (if_neg hq)
    · exact State.remembers_storeAll _ _ _ fun a => (s.mem_hostWrites_iff r.writes a).symm

/-! Reset. -/

/-- Nothing is pending or set after reset, so that the invariant asks nothing of it (R50, R460). -/
theorem inv_reset : State.reset.Inv where
  memory := reset_memory_wf
  zero := by decide
  statusBits := BitVec.zero_and
  excCode := List.mem_cons_self
  noBranchSlot _ := ⟨rfl, rfl⟩
  noLoadSlot _ := rfl
  noStoredBytes _ := rfl

/-- Settles O13. The reset state is one literal, which each clause evaluates. -/
theorem resetStateMeetsInvariant : Obligations.ResetStateMeetsInvariant :=
  ⟨inv_reset, rfl, rfl, rfl, rfl, rfl, rfl, by decide, by decide, by decide⟩

end Sys2Proof.Machine
end
